-- ==== Sys2Proof/Word.lean ====
section
/-! DEFINITION. The word types of B85C: a byte and a 32-bit word, the character code, and the fixed-size groups of
like things that one block is made of (30_encoding.md R50). -/

namespace Sys2Proof

/-- One unit of BBUF, one table entry, one digit register (10_state.md R14, R17). -/
abbrev Byte := BitVec 8

/-- A 32-bit register or block value (00_scope.md R5, VALUE_W). -/
abbrev Word := BitVec 32

/-- One unit of TBUF: a character code of CHAR_W bits (20_memory.md R36). CHAR_W is a parameter of the instance
(00_scope.md R6), so the width is a bound the invariant states and not a part of the type. -/
abbrev Code := Nat

/-- The five characters or digits of a text block, the first in the text first (30_encoding.md R52). -/
structure CharGroup (α : Type) where
  e0 : α
  e1 : α
  e2 : α
  e3 : α
  e4 : α
deriving DecidableEq, Repr

/-- The four bytes of a binary block, the most significant first (30_encoding.md R51). -/
structure ByteQuad (α : Type) where
  b0 : α
  b1 : α
  b2 : α
  b3 : α
deriving DecidableEq, Repr

end Sys2Proof
end

