-- ==== Sys2Proof/Config.lean ====
section
/-! DEFINITION. What one B85C instance is built with, and the free values (00_scope.md R5, R6). -/

namespace Sys2Proof

/-- The parameters of one instance (00_scope.md R6, 10_state.md R23): the alphabet, digit value 0 first, each character
a 7-bit ASCII code; the width of a character code; the capacity in blocks. Each is an argument of the model: State
carries one value of this type, no step changes it, and a statement over every state is a statement over every
admissible value (log entry 1). -/
structure Params where
  alphabet : List (BitVec 7)
  charW : Nat
  maxBlocks : Nat
deriving DecidableEq, Repr

/-- Units of TBUF (10_state.md R14). -/
def Params.textCap (p : Params) : Nat := 5 * p.maxBlocks

/-- Units of BBUF (10_state.md R14). -/
def Params.binCap (p : Params) : Nat := 4 * p.maxBlocks

namespace Config

/-- P1 = 85^1, a wired constant (10_state.md R13). -/
def p1 : Nat := 85
/-- P2 = 85^2. -/
def p2 : Nat := 7225
/-- P3 = 85^3. -/
def p3 : Nat := 614125
/-- P4 = 85^4. -/
def p4 : Nat := 52200625

/-- SENTINEL, the decode-table entry of a code that is no alphabet character (00_scope.md R6). -/
def sentinel : Byte := 0xFF#8

/-- The default ALPHABET (30_encoding.md R55, R58), as the codes of the 85 characters. PRESUMED by the spec itself, from
general knowledge (log entry 2). -/
def defaultAlphabet : List (BitVec 7) :=
  [0x30#7, 0x31#7, 0x32#7, 0x33#7, 0x34#7, 0x35#7, 0x36#7, 0x37#7, 0x38#7, 0x39#7] ++
  [0x61#7, 0x62#7, 0x63#7, 0x64#7, 0x65#7, 0x66#7, 0x67#7, 0x68#7, 0x69#7, 0x6A#7, 0x6B#7, 0x6C#7, 0x6D#7] ++
  [0x6E#7, 0x6F#7, 0x70#7, 0x71#7, 0x72#7, 0x73#7, 0x74#7, 0x75#7, 0x76#7, 0x77#7, 0x78#7, 0x79#7, 0x7A#7] ++
  [0x41#7, 0x42#7, 0x43#7, 0x44#7, 0x45#7, 0x46#7, 0x47#7, 0x48#7, 0x49#7, 0x4A#7, 0x4B#7, 0x4C#7, 0x4D#7] ++
  [0x4E#7, 0x4F#7, 0x50#7, 0x51#7, 0x52#7, 0x53#7, 0x54#7, 0x55#7, 0x56#7, 0x57#7, 0x58#7, 0x59#7, 0x5A#7] ++
  [0x2E#7, 0x2D#7, 0x3A#7, 0x2B#7, 0x3D#7, 0x5E#7, 0x21#7, 0x2F#7, 0x2A#7, 0x3F#7, 0x26#7, 0x3C#7] ++
  [0x3E#7, 0x28#7, 0x29#7, 0x5B#7, 0x5D#7, 0x7B#7, 0x7D#7, 0x40#7, 0x25#7, 0x24#7, 0x23#7]

/-- The instance of State.reset: the spec's defaults for ALPHABET and CHAR_W, and the least admissible MAX_BLOCKS
(DESIGN CHOICE, log entry 3). -/
def defaultParams : Params := ⟨defaultAlphabet, 8, 4⟩

/-- FREE VALUE: the character codes of draw `n` at position `i`. No body: nothing constrains it (log entry 5). -/
opaque freeCode : Nat → Nat → Nat

/-- FREE VALUE: the bytes of draw `n` at position `i` (log entry 5). -/
opaque freeByte : Nat → Nat → Byte

/-- FREE VALUE: the 32-bit words of draw `n` at position `i` (log entry 5). -/
opaque freeWord : Nat → Nat → Word

end Config

end Sys2Proof
end

