-- ==== Sys2Proof/Syntax.lean ====
section
/-! DEFINITION. The operations of B85C as syntax, one constructor per row of spec/opcode_table.json, and the
encoded forms in which they reach the machine (30_encoding.md R59, R60, R65). -/

namespace Sys2Proof

/-- One constructor per row of the opcode table. -/
inductive Instr
  /-- DEC n: START with DIR = 0, n the 31 bits of ILEN (40_decode.md R70). -/
  | dec (n : BitVec 31)
  /-- ENC n: START with DIR = 1 (41_encode.md R90). -/
  | enc (n : BitVec 31)
  /-- DECBLK: decode one block (40_decode.md R78). -/
  | decblk
  /-- DECFIN: the single validity check and the end of a decode call (40_decode.md R79). -/
  | decfin
  /-- ENCBLK: encode one block (41_encode.md R95). -/
  | encblk
  /-- ENCFIN: the end of an encode call (41_encode.md R98). -/
  | encfin
  /-- WRT i, c: write one character code (42_host_interface.md R106). -/
  | wrt (i : Nat) (c : Code)
  /-- WRB i, v: write one byte (42_host_interface.md R107). -/
  | wrb (i : Nat) (v : Byte)
  /-- RDT i: read one character code (42_host_interface.md R108). -/
  | rdt (i : Nat)
  /-- RDB i: read one byte (42_host_interface.md R109). -/
  | rdb (i : Nat)
  /-- RDS: read STATUS (42_host_interface.md R111). -/
  | rds
  /-- RDL: read OLEN (42_host_interface.md R112). -/
  | rdl
  /-- RDC: read CMD (42_host_interface.md R113). -/
  | rdc
  /-- RESET (70_reset_and_hazards.md R145). -/
  | reset
  -- The 85 data symbols, SYM_<digit value> (30_encoding.md R55, R56).
  | sym_00 | sym_01 | sym_02 | sym_03 | sym_04 | sym_05 | sym_06 | sym_07 | sym_08 | sym_09
  | sym_10 | sym_11 | sym_12 | sym_13 | sym_14 | sym_15 | sym_16 | sym_17 | sym_18 | sym_19
  | sym_20 | sym_21 | sym_22 | sym_23 | sym_24 | sym_25 | sym_26 | sym_27 | sym_28 | sym_29
  | sym_30 | sym_31 | sym_32 | sym_33 | sym_34 | sym_35 | sym_36 | sym_37 | sym_38 | sym_39
  | sym_40 | sym_41 | sym_42 | sym_43 | sym_44 | sym_45 | sym_46 | sym_47 | sym_48 | sym_49
  | sym_50 | sym_51 | sym_52 | sym_53 | sym_54 | sym_55 | sym_56 | sym_57 | sym_58 | sym_59
  | sym_60 | sym_61 | sym_62 | sym_63 | sym_64 | sym_65 | sym_66 | sym_67 | sym_68 | sym_69
  | sym_70 | sym_71 | sym_72 | sym_73 | sym_74 | sym_75 | sym_76 | sym_77 | sym_78 | sym_79
  | sym_80 | sym_81 | sym_82 | sym_83 | sym_84
deriving DecidableEq, Repr

/-- A transaction on one of the host's named ports; it has no binary encoding (30_encoding.md R60). -/
inductive PortTx
  | writeText (i : Nat) (c : Code)
  | writeByte (i : Nat) (v : Byte)
  | readText (i : Nat)
  | readByte (i : Nat)
  | readStatus
  | readLength
  | readCommand
  | reset
deriving DecidableEq, Repr

/-- What the host presents: a word on the command port (format CMD), a transaction on a named port (format PORT), or a
bare character code (format SYM, a data row; log entry 9). -/
inductive HostItem
  | cmd (w : Word)
  | port (t : PortTx)
  | sym (c : Byte)
deriving DecidableEq, Repr

/-- What the decoder reads: a host item, or the engine's 3-bit selector SEL, which is a function of state and never
fetched (30_encoding.md R60). -/
inductive Item
  | host (h : HostItem)
  | sel (w : BitVec 3)
deriving DecidableEq, Repr

/-- Whose turn it is: the engine's, or the host's with the item it presents (00_scope.md R8, log entry 7). -/
inductive Turn
  | engine
  | host (h : HostItem)
deriving DecidableEq, Repr

/-- The four formats of the opcode table. -/
inductive Format
  | cmd | sel | port | sym
deriving DecidableEq, Repr

/-- The format of each row of the opcode table. -/
def Instr.format : Instr → Format
  | .dec _ | .enc _ => .cmd
  | .decblk | .decfin | .encblk | .encfin => .sel
  | .wrt _ _ | .wrb _ _ | .rdt _ | .rdb _ | .rds | .rdl | .rdc | .reset => .port
  | .sym_00 | .sym_01 | .sym_02 | .sym_03 | .sym_04 | .sym_05 | .sym_06 | .sym_07 | .sym_08 | .sym_09
  | .sym_10 | .sym_11 | .sym_12 | .sym_13 | .sym_14 | .sym_15 | .sym_16 | .sym_17 | .sym_18 | .sym_19
  | .sym_20 | .sym_21 | .sym_22 | .sym_23 | .sym_24 | .sym_25 | .sym_26 | .sym_27 | .sym_28 | .sym_29
  | .sym_30 | .sym_31 | .sym_32 | .sym_33 | .sym_34 | .sym_35 | .sym_36 | .sym_37 | .sym_38 | .sym_39
  | .sym_40 | .sym_41 | .sym_42 | .sym_43 | .sym_44 | .sym_45 | .sym_46 | .sym_47 | .sym_48 | .sym_49
  | .sym_50 | .sym_51 | .sym_52 | .sym_53 | .sym_54 | .sym_55 | .sym_56 | .sym_57 | .sym_58 | .sym_59
  | .sym_60 | .sym_61 | .sym_62 | .sym_63 | .sym_64 | .sym_65 | .sym_66 | .sym_67 | .sym_68 | .sym_69
  | .sym_70 | .sym_71 | .sym_72 | .sym_73 | .sym_74 | .sym_75 | .sym_76 | .sym_77 | .sym_78 | .sym_79
  | .sym_80 | .sym_81 | .sym_82 | .sym_83 | .sym_84 => .sym

end Sys2Proof
end

