-- ==== Sys2Proof/Decode.lean ====
section
/-! DEFINITION. Decoding, total on every encoded form and rejecting by name, and the encoder after it
(30_encoding.md R59, R60, R55; the PORT rows have no encoding and are transactions on named ports). -/

namespace Sys2Proof

/-- Why a form is no operation. -/
inductive Reject
  /-- SEL = 0xx selects no engine step (30_encoding.md R60). -/
  | noStepSelected (w : BitVec 3)
  /-- The code is no symbol of the opcode table (30_encoding.md R61). -/
  | notASymbol (c : Byte)
  /-- No format of the opcode table has this many bits. -/
  | noFormat (nbits : Nat)
deriving DecidableEq, Repr

/-- A command word: bit 31 selects the operation and the other 31 bits are the length (30_encoding.md R59). -/
def decodeCmd (w : Word) : Instr :=
  if w.getLsbD 31 then .enc (w.extractLsb' 0 31) else .dec (w.extractLsb' 0 31)

/-- The engine step a selector BUSY · DIR · LAST selects (30_encoding.md R60). -/
def decodeSel (w : BitVec 3) : Except Reject Instr :=
  if w = 0b100#3 then .ok .decblk
  else if w = 0b101#3 then .ok .decfin
  else if w = 0b110#3 then .ok .encblk
  else if w = 0b111#3 then .ok .encfin
  else .error (.noStepSelected w)

/-- A port transaction is its operation, operand by operand (30_encoding.md R65). -/
def decodePort : PortTx → Instr
  | .writeText i c => .wrt i c
  | .writeByte i v => .wrb i v
  | .readText i => .rdt i
  | .readByte i => .rdb i
  | .readStatus => .rds
  | .readLength => .rdl
  | .readCommand => .rdc
  | .reset => .reset

/-- Digit values 0 to 16 of 30_encoding.md R55. -/
def symRows0 : List (Byte × Instr) :=
  [(0x30#8, .sym_00), (0x31#8, .sym_01), (0x32#8, .sym_02), (0x33#8, .sym_03), (0x34#8, .sym_04),
   (0x35#8, .sym_05), (0x36#8, .sym_06), (0x37#8, .sym_07), (0x38#8, .sym_08), (0x39#8, .sym_09),
   (0x61#8, .sym_10), (0x62#8, .sym_11), (0x63#8, .sym_12), (0x64#8, .sym_13), (0x65#8, .sym_14),
   (0x66#8, .sym_15), (0x67#8, .sym_16)]

/-- Digit values 17 to 33 of 30_encoding.md R55. -/
def symRows1 : List (Byte × Instr) :=
  [(0x68#8, .sym_17), (0x69#8, .sym_18), (0x6A#8, .sym_19), (0x6B#8, .sym_20), (0x6C#8, .sym_21),
   (0x6D#8, .sym_22), (0x6E#8, .sym_23), (0x6F#8, .sym_24), (0x70#8, .sym_25), (0x71#8, .sym_26),
   (0x72#8, .sym_27), (0x73#8, .sym_28), (0x74#8, .sym_29), (0x75#8, .sym_30), (0x76#8, .sym_31),
   (0x77#8, .sym_32), (0x78#8, .sym_33)]

/-- Digit values 34 to 50 of 30_encoding.md R55. -/
def symRows2 : List (Byte × Instr) :=
  [(0x79#8, .sym_34), (0x7A#8, .sym_35), (0x41#8, .sym_36), (0x42#8, .sym_37), (0x43#8, .sym_38),
   (0x44#8, .sym_39), (0x45#8, .sym_40), (0x46#8, .sym_41), (0x47#8, .sym_42), (0x48#8, .sym_43),
   (0x49#8, .sym_44), (0x4A#8, .sym_45), (0x4B#8, .sym_46), (0x4C#8, .sym_47), (0x4D#8, .sym_48),
   (0x4E#8, .sym_49), (0x4F#8, .sym_50)]

/-- Digit values 51 to 67 of 30_encoding.md R55. -/
def symRows3 : List (Byte × Instr) :=
  [(0x50#8, .sym_51), (0x51#8, .sym_52), (0x52#8, .sym_53), (0x53#8, .sym_54), (0x54#8, .sym_55),
   (0x55#8, .sym_56), (0x56#8, .sym_57), (0x57#8, .sym_58), (0x58#8, .sym_59), (0x59#8, .sym_60),
   (0x5A#8, .sym_61), (0x2E#8, .sym_62), (0x2D#8, .sym_63), (0x3A#8, .sym_64), (0x2B#8, .sym_65),
   (0x3D#8, .sym_66), (0x5E#8, .sym_67)]

/-- Digit values 68 to 84 of 30_encoding.md R55. -/
def symRows4 : List (Byte × Instr) :=
  [(0x21#8, .sym_68), (0x2F#8, .sym_69), (0x2A#8, .sym_70), (0x3F#8, .sym_71), (0x26#8, .sym_72),
   (0x3C#8, .sym_73), (0x3E#8, .sym_74), (0x28#8, .sym_75), (0x29#8, .sym_76), (0x5B#8, .sym_77),
   (0x5D#8, .sym_78), (0x7B#8, .sym_79), (0x7D#8, .sym_80), (0x40#8, .sym_81), (0x25#8, .sym_82),
   (0x24#8, .sym_83), (0x23#8, .sym_84)]

/-- The SYM rows of the opcode table, digit value 0 first: the code of the row and the row. -/
def symRows : List (Byte × Instr) := symRows0 ++ symRows1 ++ symRows2 ++ symRows3 ++ symRows4

/-- A bare character code: the row of the table that has it (30_encoding.md R55), or no symbol (R61). -/
def decodeSym (c : Byte) : Except Reject Instr :=
  match symRows.lookup c with
  | some i => .ok i
  | none => .error (.notASymbol c)

/-- The operation a host item stands for. -/
def decodeHost : HostItem → Except Reject Instr
  | .cmd w => .ok (decodeCmd w)
  | .port t => .ok (decodePort t)
  | .sym c => decodeSym c

/-- The decoder. -/
def decode : Item → Except Reject Instr
  | .host h => decodeHost h
  | .sel w => decodeSel w

/-- The item that bits of a given number stand for, by the widths of the opcode table: 32 bits are a command word, 3 bits
a selector, 8 bits a character code; a selector in a whole byte is a value below 8, which is no symbol of the table
(log entry 12). A PORT row has no bits. -/
def itemOfBits (nbits w : Nat) : Except Reject Item :=
  if nbits = 32 then .ok (.host (.cmd (BitVec.ofNat 32 w)))
  else if nbits = 3 then .ok (.sel (BitVec.ofNat 3 w))
  else if nbits = 8 then
    if w < 8 then .ok (.sel (BitVec.ofNat 3 w)) else .ok (.host (.sym (BitVec.ofNat 8 w)))
  else .error (.noFormat nbits)

/-- The instruction the decoder reads from `nbits` bits of value `w`, none where it rejects them. -/
def decodeTableWord (nbits w : Nat) : Option Instr :=
  match itemOfBits nbits w with
  | .ok x => (decode x).toOption
  | .error _ => none

/-- The command word of a direction and a length: DIR at bit 31, ILEN below it (30_encoding.md R59). -/
def commandWord (dir : Bool) (n : BitVec 31) : Word := BitVec.ofBool dir ++ n

/-- The encoder, from the same tables of the spec. -/
def encode : Instr → Item
  | .dec n => .host (.cmd (commandWord false n))
  | .enc n => .host (.cmd (commandWord true n))
  | .decblk => .sel 0b100#3
  | .decfin => .sel 0b101#3
  | .encblk => .sel 0b110#3
  | .encfin => .sel 0b111#3
  | .wrt i c => .host (.port (.writeText i c))
  | .wrb i v => .host (.port (.writeByte i v))
  | .rdt i => .host (.port (.readText i))
  | .rdb i => .host (.port (.readByte i))
  | .rds => .host (.port .readStatus)
  | .rdl => .host (.port .readLength)
  | .rdc => .host (.port .readCommand)
  | .reset => .host (.port .reset)
  | .sym_00 => .host (.sym 0x30#8)
  | .sym_01 => .host (.sym 0x31#8)
  | .sym_02 => .host (.sym 0x32#8)
  | .sym_03 => .host (.sym 0x33#8)
  | .sym_04 => .host (.sym 0x34#8)
  | .sym_05 => .host (.sym 0x35#8)
  | .sym_06 => .host (.sym 0x36#8)
  | .sym_07 => .host (.sym 0x37#8)
  | .sym_08 => .host (.sym 0x38#8)
  | .sym_09 => .host (.sym 0x39#8)
  | .sym_10 => .host (.sym 0x61#8)
  | .sym_11 => .host (.sym 0x62#8)
  | .sym_12 => .host (.sym 0x63#8)
  | .sym_13 => .host (.sym 0x64#8)
  | .sym_14 => .host (.sym 0x65#8)
  | .sym_15 => .host (.sym 0x66#8)
  | .sym_16 => .host (.sym 0x67#8)
  | .sym_17 => .host (.sym 0x68#8)
  | .sym_18 => .host (.sym 0x69#8)
  | .sym_19 => .host (.sym 0x6A#8)
  | .sym_20 => .host (.sym 0x6B#8)
  | .sym_21 => .host (.sym 0x6C#8)
  | .sym_22 => .host (.sym 0x6D#8)
  | .sym_23 => .host (.sym 0x6E#8)
  | .sym_24 => .host (.sym 0x6F#8)
  | .sym_25 => .host (.sym 0x70#8)
  | .sym_26 => .host (.sym 0x71#8)
  | .sym_27 => .host (.sym 0x72#8)
  | .sym_28 => .host (.sym 0x73#8)
  | .sym_29 => .host (.sym 0x74#8)
  | .sym_30 => .host (.sym 0x75#8)
  | .sym_31 => .host (.sym 0x76#8)
  | .sym_32 => .host (.sym 0x77#8)
  | .sym_33 => .host (.sym 0x78#8)
  | .sym_34 => .host (.sym 0x79#8)
  | .sym_35 => .host (.sym 0x7A#8)
  | .sym_36 => .host (.sym 0x41#8)
  | .sym_37 => .host (.sym 0x42#8)
  | .sym_38 => .host (.sym 0x43#8)
  | .sym_39 => .host (.sym 0x44#8)
  | .sym_40 => .host (.sym 0x45#8)
  | .sym_41 => .host (.sym 0x46#8)
  | .sym_42 => .host (.sym 0x47#8)
  | .sym_43 => .host (.sym 0x48#8)
  | .sym_44 => .host (.sym 0x49#8)
  | .sym_45 => .host (.sym 0x4A#8)
  | .sym_46 => .host (.sym 0x4B#8)
  | .sym_47 => .host (.sym 0x4C#8)
  | .sym_48 => .host (.sym 0x4D#8)
  | .sym_49 => .host (.sym 0x4E#8)
  | .sym_50 => .host (.sym 0x4F#8)
  | .sym_51 => .host (.sym 0x50#8)
  | .sym_52 => .host (.sym 0x51#8)
  | .sym_53 => .host (.sym 0x52#8)
  | .sym_54 => .host (.sym 0x53#8)
  | .sym_55 => .host (.sym 0x54#8)
  | .sym_56 => .host (.sym 0x55#8)
  | .sym_57 => .host (.sym 0x56#8)
  | .sym_58 => .host (.sym 0x57#8)
  | .sym_59 => .host (.sym 0x58#8)
  | .sym_60 => .host (.sym 0x59#8)
  | .sym_61 => .host (.sym 0x5A#8)
  | .sym_62 => .host (.sym 0x2E#8)
  | .sym_63 => .host (.sym 0x2D#8)
  | .sym_64 => .host (.sym 0x3A#8)
  | .sym_65 => .host (.sym 0x2B#8)
  | .sym_66 => .host (.sym 0x3D#8)
  | .sym_67 => .host (.sym 0x5E#8)
  | .sym_68 => .host (.sym 0x21#8)
  | .sym_69 => .host (.sym 0x2F#8)
  | .sym_70 => .host (.sym 0x2A#8)
  | .sym_71 => .host (.sym 0x3F#8)
  | .sym_72 => .host (.sym 0x26#8)
  | .sym_73 => .host (.sym 0x3C#8)
  | .sym_74 => .host (.sym 0x3E#8)
  | .sym_75 => .host (.sym 0x28#8)
  | .sym_76 => .host (.sym 0x29#8)
  | .sym_77 => .host (.sym 0x5B#8)
  | .sym_78 => .host (.sym 0x5D#8)
  | .sym_79 => .host (.sym 0x7B#8)
  | .sym_80 => .host (.sym 0x7D#8)
  | .sym_81 => .host (.sym 0x40#8)
  | .sym_82 => .host (.sym 0x25#8)
  | .sym_83 => .host (.sym 0x24#8)
  | .sym_84 => .host (.sym 0x23#8)

/-- The format of an encoded form. -/
def Item.format : Item → Format
  | .host (.cmd _) => .cmd
  | .host (.port _) => .port
  | .host (.sym _) => .sym
  | .sel _ => .sel

end Sys2Proof
end

