-- ==== Sys2Proof/WellFormed.lean ====
section
/-! DEFINITION. The checks on what an instance is built with (00_scope.md R6, 30_encoding.md R58) and on an
instruction's operands (42_host_interface.md R105). -/

namespace Sys2Proof

/-- Exactly 85 characters (00_scope.md R5, BASE). -/
def Params.alphabetLength (p : Params) : Bool := p.alphabet.length == 85

/-- The characters are distinct (00_scope.md R6). -/
def Params.alphabetDistinct (p : Params) : Bool := decide p.alphabet.Nodup

/-- The character '0' has digit value 0 (30_encoding.md R58). -/
def Params.alphabetZero (p : Params) : Bool := p.alphabet.head? == some 0x30#7

/-- Every character is printable and not the space (00_scope.md R1 "printable ASCII strings"; 40_decode.md R84 (c): the
space is outside the alphabet). -/
def Params.alphabetPrintable (p : Params) : Bool := p.alphabet.all fun a => 0x21#7 ≤ a && a ≤ 0x7E#7

/-- The class of a printable character, in the order digits, lowercase, uppercase, punctuation (00_scope.md R6). -/
def charClass (a : BitVec 7) : Nat :=
  if 0x30#7 ≤ a && a ≤ 0x39#7 then 0
  else if 0x61#7 ≤ a && a ≤ 0x7A#7 then 1
  else if 0x41#7 ≤ a && a ≤ 0x5A#7 then 2
  else 3

/-- The classes stand in that order (00_scope.md R6). -/
def Params.alphabetClasses (p : Params) : Bool := decide ((p.alphabet.map charClass).Pairwise (· ≤ ·))

/-- CHAR_W is 8 or more (00_scope.md R6). -/
def Params.charWidth (p : Params) : Bool := decide (8 ≤ p.charW)

/-- MAX_BLOCKS is 4 or more (00_scope.md R6). -/
def Params.leastBlocks (p : Params) : Bool := decide (4 ≤ p.maxBlocks)

/-- 5*MAX_BLOCKS is at most 2^31 - 1 (00_scope.md R6). -/
def Params.mostBlocks (p : Params) : Bool := decide (5 * p.maxBlocks ≤ 2 ^ 31 - 1)

/-- The admissible instances. -/
def Params.ok (p : Params) : Bool :=
  p.alphabetLength && p.alphabetDistinct && p.alphabetZero && p.alphabetPrintable && p.alphabetClasses &&
    p.charWidth && p.leastBlocks && p.mostBlocks

/-- The code operand of WRT has CHAR_W bits (42_host_interface.md R105); the widths of every other operand are in its
type. -/
def Instr.codeFits (p : Params) : Instr → Bool
  | .wrt _ c => decide (c < 2 ^ p.charW)
  | _ => true

/-- An instruction whose operands the instance's ports can carry. -/
def Instr.wellFormed (p : Params) (i : Instr) : Bool := i.codeFits p

end Sys2Proof
end

