-- ==== Sys2Proof/Machine/State.lean ====
section
/-! DEFINITION. The state of one B85C instance (10_state.md R10), the reasons a step can stop, and the state after
reset (10_state.md R25). -/

namespace Sys2Proof.Machine

/-- STATUS.CAUSE (60_exceptions.md R126). -/
inductive Cause
  | none | length | character | capacity
deriving DecidableEq, Repr

/-- STATUS by field (10_state.md R19). Bits 7:5 are hardwired 0, so no field holds them; the byte a host reads is
Status.byte. -/
structure Status where
  busy : Bool
  done : Bool
  err : Bool
  cause : Cause
deriving DecidableEq, Repr

/-- STATUS = 0x00, idle after reset. -/
def Status.idle : Status := ⟨false, false, false, .none⟩

/-- STATUS = 0x01, a call in progress. -/
def Status.running : Status := ⟨true, false, false, .none⟩

/-- STATUS = 0x02, the last call succeeded. -/
def Status.succeeded : Status := ⟨false, true, false, .none⟩

/-- STATUS = 0x0E, 0x16 or 0x1E, the last call ended with InvalidInput. -/
def Status.failed (k : Cause) : Status := ⟨false, true, true, k⟩

/-- The datapath registers (10_state.md R17), kept because R10 lists them; no meaning reads one before it has written it
(log entry 6). -/
structure Datapath where
  c : CharGroup Code
  d : CharGroup Byte
  s : Nat
  v : Word
  b : ByteQuad Byte
  rm : Word
deriving DecidableEq, Repr

/-- The datapath registers of State.reset: the spec gives no value (DESIGN CHOICE, log entry 6). -/
def Datapath.zero : Datapath := ⟨⟨0, 0, 0, 0, 0⟩, ⟨0, 0, 0, 0, 0⟩, 0, 0, ⟨0, 0, 0, 0⟩, 0⟩

/-- A buffer: the units that something has written, by index, indices strictly rising (log entry 4). -/
abbrev Memory (α : Type) := List (Nat × α)

/-- What a host read returns (42_host_interface.md R105). -/
inductive Reply
  | none
  | code (c : Code)
  | byte (v : Byte)
  | status (v : Byte)
  | length (n : Word)
  | command (w : Word)
deriving DecidableEq, Repr

/-- The state. The fields down to bbuf are the spec's; those after it are the model's own (log entries 5, 7, 9, 10). -/
structure State where
  build : Params
  cmd : Word
  status : Status
  olen : Word
  canary : Nat
  blk : Nat
  nblk : Nat
  dp : Datapath
  tbuf : Memory Code
  bbuf : List Host.Cell
  bufDraw : Nat
  draws : Nat
  inbox : List Turn
  reply : Reply
  symRead : Byte × Byte
deriving DecidableEq, Repr

/-- No step faults: the one exception, InvalidInput, is a defined result, and the engine and the host have a step in
every state (93_implementation_defined.md part 1; log entry 17). So there is no fault to name. -/
inductive Fault
deriving DecidableEq, Repr

/-- Why a step has no meaning. -/
inductive Refusal
  /-- Raised by an arm of exec that has no meaning yet: safe. No arm has it. -/
  | notModelled (mnemonic : String)
  /-- Raised by step when the item presented is no operation and no data row of the opcode table (a bare character code
  outside the table): safe, the machine stops where the spec has no operation at all (log entry 14). -/
  | undecodable (r : Reject)
deriving DecidableEq, Repr

/-- The state after reset of an instance built with `p` (10_state.md R25). -/
def State.resetWith (p : Params) : State where
  build := p
  cmd := 0
  status := Status.idle
  olen := 0
  canary := 0
  blk := 0
  nblk := 0
  dp := Datapath.zero
  tbuf := []
  bbuf := []
  bufDraw := 0
  draws := 1
  inbox := []
  reply := .none
  symRead := (0, 0)

/-- The machine right after reset, for the default instance (log entries 2, 3). -/
def State.reset : State := State.resetWith Config.defaultParams

end Sys2Proof.Machine
end

