-- ==== Sys2Proof/Machine/Ops.lean ====
section
/-! DEFINITION. The named operations over buffers and registers, the free draws, and taking the one exception
(60_exceptions.md R129). There is no return from it: the next accepted START or RESET leaves the error state
(60_exceptions.md R132), so no operation stands beside it. -/

namespace Sys2Proof.Machine

/-- The value listed at an index. -/
def Memory.lookup {α : Type} : Memory α → Nat → Option α
  | [], _ => none
  | (a, x) :: m, i => if a = i then some x else Memory.lookup m i

/-- List a value at an index, keeping the indices rising. -/
def Memory.write {α : Type} : Memory α → Nat → α → Memory α
  | [], i, v => [(i, v)]
  | (a, x) :: m, i, v =>
    if i < a then (i, v) :: (a, x) :: m
    else if i = a then (i, v) :: m
    else (a, x) :: Memory.write m i v

/-- List `f i` at every index `i` below a bound. -/
def Memory.writeBelow {α : Type} (m : Memory α) (f : Nat → α) : Nat → Memory α
  | 0 => m
  | k + 1 => Memory.write (Memory.writeBelow m f k) k (f k)

/-- The canonical form of a buffer of `cap` units: indices strictly rising and below the capacity, every value one a unit
can hold (log entry 4). -/
def Memory.wf {α : Type} (cap : Nat) (fits : α → Bool) (m : Memory α) : Bool :=
  decide ((m.map Prod.fst).Pairwise (· < ·)) && m.all fun e => decide (e.1 < cap) && fits e.2

/-- MemRead(TBUF, i): the last value written, or the free value of the last reset's draw (00_scope.md R7, 93 U1). -/
def State.readText (s : State) (i : Nat) : Code :=
  match Memory.lookup s.tbuf i with
  | some c => c
  | none => Config.freeCode s.bufDraw i % 2 ^ s.build.charW

/-- MemRead(BBUF, i). -/
def State.readByte (s : State) (i : Nat) : Byte :=
  match Memory.lookup s.bbuf i with
  | some v => v
  | none => Config.freeByte s.bufDraw i

/-- MemWrite(TBUF, i, c). -/
def State.writeText (s : State) (i : Nat) (c : Code) : State := { s with tbuf := Memory.write s.tbuf i c }

/-- MemWrite(BBUF, i, v). -/
def State.writeByte (s : State) (i : Nat) (v : Byte) : State := { s with bbuf := Memory.write s.bbuf i v }

/-- Give the host what its read returned. -/
def State.withReply (s : State) (r : Reply) : State := { s with reply := r }

/-- Record the two table reads of a SYM row (log entry 9). -/
def State.withSymRead (s : State) (e d : Byte) : State := { s with symRead := (e, d) }

/-- Count one draw of free values (log entry 5). -/
def State.drawn (s : State) : State := { s with draws := s.draws + 1 }

/-- An unspecified character code, a fresh draw (93 U4). -/
def State.anyCode (s : State) : Code := Config.freeCode s.draws 0 % 2 ^ s.build.charW

/-- An unspecified byte, a fresh draw (93 U4). -/
def State.anyByte (s : State) : Byte := Config.freeByte s.draws 0

/-- BBUF[i] <- any for every i below `k`, one fresh draw (40_decode.md R79, 93 U3). -/
def State.scrambleBytes (s : State) (k : Nat) : State :=
  State.drawn { s with bbuf := Memory.writeBelow s.bbuf (Config.freeByte s.draws) k }

/-- Unspecified datapath registers of draw `n`, each within its width (10_state.md R17, R25). -/
def Datapath.any (p : Params) (n : Nat) : Datapath where
  c := ⟨Config.freeCode n 0 % 2 ^ p.charW, Config.freeCode n 1 % 2 ^ p.charW, Config.freeCode n 2 % 2 ^ p.charW,
        Config.freeCode n 3 % 2 ^ p.charW, Config.freeCode n 4 % 2 ^ p.charW⟩
  d := ⟨Config.freeByte n 0, Config.freeByte n 1, Config.freeByte n 2, Config.freeByte n 3, Config.freeByte n 4⟩
  s := Config.freeCode n 5 % 2 ^ 34
  v := Config.freeWord n 0
  b := ⟨Config.freeByte n 5, Config.freeByte n 6, Config.freeByte n 7, Config.freeByte n 8⟩
  rm := Config.freeWord n 1

/-- raise InvalidInput(cause), the only trap entry (60_exceptions.md R129). -/
def raiseInvalidInput (k : Cause) (s : State) : State := { s with status := Status.failed k, olen := 0 }

/-- The end of a call that succeeds with `len` output units (40_decode.md R79, 41_encode.md R98). -/
def succeed (len : Nat) (s : State) : State := { s with olen := BitVec.ofNat 32 len, status := Status.succeeded }

/-- The state after the RESET operation (70_reset_and_hazards.md R145, R147): the registers of 10_state.md R25 at their
values, every buffer unit and every datapath register a fresh free value. What the instance is built with and the
host's side (inbox, reply, symRead) are no state of B85C and stay (log entry 13). -/
def resetState (s : State) : State where
  build := s.build
  cmd := 0
  status := Status.idle
  olen := 0
  canary := 0
  blk := 0
  nblk := 0
  dp := Datapath.any s.build (s.draws + 1)
  tbuf := []
  bbuf := []
  bufDraw := s.draws
  draws := s.draws + 2
  inbox := s.inbox
  reply := s.reply
  symRead := s.symRead

end Sys2Proof.Machine
end

