-- ==== Sys2Proof/Machine/Operands.lean ====
section
/-! DEFINITION. The operand forms: the fields of a command word, the lookup tables, the block access primitives, and the
values assembled from characters and from bytes (20_memory.md R34, 30_encoding.md R51 to R56). -/

namespace Sys2Proof

/-- ENC_LUT[d]: the 8-bit value of the alphabet's character (10_state.md R11). -/
def Params.encLut (p : Params) (d : Nat) : Byte := (p.alphabet.getD d 0).setWidth 8

/-- DEC_LUT[a]: the alphabet inverted, SENTINEL elsewhere (10_state.md R12). -/
def Params.decLut (p : Params) (a : BitVec 7) : Byte :=
  if a ∈ p.alphabet then BitVec.ofNat 8 (p.alphabet.idxOf a) else Config.sentinel

/-- DecLookup(c) = DEC_LUT[c[6:0]] (40_decode.md R72). -/
def Params.decLookup (p : Params) (c : Code) : Byte := p.decLut (BitVec.ofNat 7 c)

/-- The five elements through one function. -/
def CharGroup.map {α β : Type} (f : α → β) (g : CharGroup α) : CharGroup β := ⟨f g.e0, f g.e1, f g.e2, f g.e3, f g.e4⟩

end Sys2Proof

namespace Sys2Proof.Machine

/-- CMD.DIR (10_state.md R18): false decode, true encode. -/
def cmdDir (w : Word) : Bool := w.getLsbD 31

/-- CMD.ILEN (10_state.md R18), an unsigned count of units. -/
def cmdLen (w : Word) : Nat := (w.extractLsb' 0 31).toNat

/-- Input units per block in a direction (42_host_interface.md R110). -/
def unitOf (dir : Bool) : Nat := if dir then 4 else 5

/-- RdTextBlock(b) (20_memory.md R34). -/
def State.rdTextBlock (s : State) (b : Nat) : CharGroup Code :=
  ⟨s.readText (5 * b), s.readText (5 * b + 1), s.readText (5 * b + 2), s.readText (5 * b + 3), s.readText (5 * b + 4)⟩

/-- Five units of a buffer from an index on. -/
def Memory.writeGroup (m : Memory Code) (i : Nat) (g : CharGroup Code) : Memory Code :=
  Memory.write (Memory.write (Memory.write (Memory.write (Memory.write m i g.e0) (i + 1) g.e1) (i + 2) g.e2) (i + 3) g.e3)
    (i + 4) g.e4

/-- WrTextBlock(b, c0..c4) (20_memory.md R34). -/
def State.wrTextBlock (s : State) (b : Nat) (g : CharGroup Code) : State :=
  { s with tbuf := Memory.writeGroup s.tbuf (5 * b) g }

/-- RdBinBlock(b) (20_memory.md R34). -/
def State.rdBinBlock (s : State) (b : Nat) : ByteQuad Byte :=
  ⟨s.readByte (4 * b), s.readByte (4 * b + 1), s.readByte (4 * b + 2), s.readByte (4 * b + 3)⟩

/-- Four units of a buffer from an index on. -/
def Memory.writeQuad (m : Memory Byte) (i : Nat) (q : ByteQuad Byte) : Memory Byte :=
  Memory.write (Memory.write (Memory.write (Memory.write m i q.b0) (i + 1) q.b1) (i + 2) q.b2) (i + 3) q.b3

/-- V[31:24], V[23:16], V[15:8], V[7:0] (20_memory.md R31, 30_encoding.md R51). -/
def bytesOf (v : Word) : ByteQuad Byte := ⟨v.extractLsb' 24 8, v.extractLsb' 16 8, v.extractLsb' 8 8, v.extractLsb' 0 8⟩

/-- WrBinBlock(b, V) (20_memory.md R34). -/
def State.wrBinBlock (s : State) (b : Nat) (v : Word) : State :=
  { s with bbuf := Memory.writeQuad s.bbuf (4 * b) (bytesOf v) }

/-- B[0] · B[1] · B[2] · B[3], the big-endian block value (41_encode.md R92). -/
def wordOf (q : ByteQuad Byte) : Word := q.b0 ++ q.b1 ++ q.b2 ++ q.b3

/-- S, the exact radix-85 sum of five 8-bit digits (40_decode.md R74). -/
def blockSum (d : CharGroup Byte) : Nat :=
  d.e0.toNat * Config.p4 + d.e1.toNat * Config.p3 + d.e2.toNat * Config.p2 + d.e3.toNat * Config.p1 + d.e4.toNat

/-- V = S mod 2^32 (40_decode.md R76). -/
def blockValue (sum : Nat) : Word := BitVec.ofNat 32 sum

/-- The divide chain: the five digits of a block value, most significant first (41_encode.md R93). -/
def divideChain (v : Nat) : CharGroup Nat :=
  let r1 := v % Config.p4
  let r2 := r1 % Config.p3
  let r3 := r2 % Config.p2
  ⟨v / Config.p4, r1 / Config.p3, r2 / Config.p2, r3 / Config.p1, r3 % Config.p1⟩

end Sys2Proof.Machine
end

