-- ==== Sys2Proof/Machine/Flags.lean ====
section
/-! DEFINITION. The flag computations: the bytes of STATUS, the canary's OR-tree and its test, and the engine's
selector (10_state.md R19, R21; 40_decode.md R77, R79; 30_encoding.md R60). -/

namespace Sys2Proof.Machine

/-- The code of a cause (60_exceptions.md R126). -/
def Cause.code : Cause → BitVec 2
  | .none => 0
  | .length => 1
  | .character => 2
  | .capacity => 3

/-- The 8-bit STATUS a host reads: bits 7:5 zero, 4:3 CAUSE, 2 ERR, 1 DONE, 0 BUSY (10_state.md R19). -/
def Status.byte (t : Status) : Byte :=
  0#3 ++ t.cause.code ++ BitVec.ofBool t.err ++ BitVec.ofBool t.done ++ BitVec.ofBool t.busy

/-- CANARY ORed with the five codes and the five zero-extended table entries of a block (40_decode.md R77). -/
def accumulate (canary : Nat) (c : CharGroup Code) (d : CharGroup Byte) : Nat :=
  canary ||| c.e0 ||| c.e1 ||| c.e2 ||| c.e3 ||| c.e4
    ||| d.e0.toNat ||| d.e1.toNat ||| d.e2.toNat ||| d.e3.toNat ||| d.e4.toNat

/-- CANARY[CANARY_W-1:7] != 0 (40_decode.md R79). -/
def taint (canary : Nat) : Bool := canary >>> 7 != 0

/-- SEL = BUSY · DIR · LAST, a function of state (30_encoding.md R60). -/
def State.sel (s : State) : BitVec 3 :=
  BitVec.ofBool s.status.busy ++ BitVec.ofBool (cmdDir s.cmd) ++ BitVec.ofBool (decide (s.blk = s.nblk))

/-- DECBLK is enabled (40_decode.md R78). -/
def State.decblkEnabled (s : State) : Bool := s.status.busy && !cmdDir s.cmd && decide (s.blk < s.nblk)

/-- DECFIN is enabled (40_decode.md R79). -/
def State.decfinEnabled (s : State) : Bool := s.status.busy && !cmdDir s.cmd && decide (s.blk = s.nblk)

/-- ENCBLK is enabled (41_encode.md R95). -/
def State.encblkEnabled (s : State) : Bool := s.status.busy && cmdDir s.cmd && decide (s.blk < s.nblk)

/-- ENCFIN is enabled (41_encode.md R98). -/
def State.encfinEnabled (s : State) : Bool := s.status.busy && cmdDir s.cmd && decide (s.blk = s.nblk)

end Sys2Proof.Machine
end

