-- ==== Sys2Proof/Machine/Start.lean ====
section
/-! DEFINITION. START w, the operation behind DEC and ENC (42_host_interface.md R110). -/

namespace Sys2Proof.Machine

/-- START w: ignored while BUSY = 1; else CMD is written, the previous result cleared, and the length and then the
capacity checked (60_exceptions.md R128). -/
def start (w : Word) (s : State) : State :=
  if s.status.busy then s
  else
    let s1 := { s with cmd := w, olen := 0, canary := 0, blk := 0 }
    let n := cmdLen w
    let unit := unitOf (cmdDir w)
    if n % unit ≠ 0 then raiseInvalidInput .length { s1 with nblk := 0 }
    else if n / unit > s.build.maxBlocks then raiseInvalidInput .capacity { s1 with nblk := 0 }
    else { s1 with nblk := n / unit, status := Status.running }

end Sys2Proof.Machine
end

