-- ==== Sys2Proof/Machine/DecodeFamily.lean ====
section
/-! DEFINITION. The decode family: DEC, DECBLK, DECFIN (40_decode.md). An engine step that is not enabled is not taken
(DESIGN CHOICE for a step named outside its turn, log entry 8). -/

namespace Sys2Proof.Machine

/-- DEC n: START with DIR = 0 (40_decode.md R70). -/
def execDec (n : BitVec 31) (s : State) : Host.Outcome State Fault Refusal := .next (start (commandWord false n) s)

/-- DECBLK (40_decode.md R78). -/
def execDecblk (s : State) : Host.Outcome State Fault Refusal :=
  if s.decblkEnabled then
    let c := s.rdTextBlock s.blk
    let d := c.map s.build.decLookup
    let sum := blockSum d
    let v := blockValue sum
    .next { s.wrBinBlock s.blk v with
      canary := accumulate s.canary c d
      dp := { s.dp with c := c, d := d, s := sum, v := v, b := bytesOf v }
      blk := s.blk + 1 }
  else .next s

/-- DECFIN (40_decode.md R79). -/
def execDecfin (s : State) : Host.Outcome State Fault Refusal :=
  if s.decfinEnabled then
    if taint s.canary then .next (raiseInvalidInput .character (s.scrambleBytes (4 * s.nblk)))
    else .next (succeed (4 * s.nblk) s)
  else .next s

end Sys2Proof.Machine
end

