-- ==== Sys2Proof/Machine/EncodeFamily.lean ====
section
/-! DEFINITION. The encode family: ENC, ENCBLK, ENCFIN (41_encode.md). An engine step that is not enabled is not taken
(DESIGN CHOICE for a step named outside its turn, log entry 8). -/

namespace Sys2Proof.Machine

/-- ENC n: START with DIR = 1 (41_encode.md R90). -/
def execEnc (n : BitVec 31) (s : State) : Host.Outcome State Fault Refusal := .next (start (commandWord true n) s)

/-- ENCBLK (41_encode.md R95). The entry of each digit is zero-extended to CHAR_W bits (R94). -/
def execEncblk (s : State) : Host.Outcome State Fault Refusal :=
  if s.encblkEnabled then
    let b := s.rdBinBlock s.blk
    let v := wordOf b
    let d := divideChain v.toNat
    let c := d.map fun k => (s.build.encLut k).toNat
    .next { s.wrTextBlock s.blk c with
      dp := { s.dp with b := b, v := v, d := d.map (BitVec.ofNat 8), rm := BitVec.ofNat 32 d.e4, c := c }
      blk := s.blk + 1 }
  else .next s

/-- ENCFIN (41_encode.md R98). -/
def execEncfin (s : State) : Host.Outcome State Fault Refusal :=
  if s.encfinEnabled then .next (succeed (5 * s.nblk) s) else .next s

end Sys2Proof.Machine
end

