-- ==== Sys2Proof/Machine/HostPort.lean ====
section
/-! DEFINITION. The host's port transactions (42_host_interface.md). While BUSY = 1, and for an index at or above the
capacity, a write changes nothing and a read returns a fresh free value (R114, 20_memory.md R37). -/

namespace Sys2Proof.Machine

/-- WRT i, c (42_host_interface.md R106). The port has CHAR_W bits, so the bits of an operand above them do not reach the
unit (DESIGN CHOICE, log entry 11). -/
def execWrt (i : Nat) (c : Code) (s : State) : Host.Outcome State Fault Refusal :=
  if !s.status.busy && decide (i < s.build.textCap) then .next (s.writeText i (c % 2 ^ s.build.charW)) else .next s

/-- WRB i, v (42_host_interface.md R107). -/
def execWrb (i : Nat) (v : Byte) (s : State) : Host.Outcome State Fault Refusal :=
  if !s.status.busy && decide (i < s.build.binCap) then .next (s.writeByte i v) else .next s

/-- RDT i (42_host_interface.md R108). -/
def execRdt (i : Nat) (s : State) : Host.Outcome State Fault Refusal :=
  if !s.status.busy && decide (i < s.build.textCap) then .next (s.withReply (.code (s.readText i)))
  else .next (s.drawn.withReply (.code s.anyCode))

/-- RDB i (42_host_interface.md R109). -/
def execRdb (i : Nat) (s : State) : Host.Outcome State Fault Refusal :=
  if !s.status.busy && decide (i < s.build.binCap) then .next (s.withReply (.byte (s.readByte i)))
  else .next (s.drawn.withReply (.byte s.anyByte))

/-- RDS (42_host_interface.md R111). -/
def execRds (s : State) : Host.Outcome State Fault Refusal := .next (s.withReply (.status s.status.byte))

/-- RDL (42_host_interface.md R112). -/
def execRdl (s : State) : Host.Outcome State Fault Refusal := .next (s.withReply (.length s.olen))

/-- RDC (42_host_interface.md R113). -/
def execRdc (s : State) : Host.Outcome State Fault Refusal := .next (s.withReply (.command s.cmd))

/-- RESET (70_reset_and_hazards.md R145), also during a call (R146). -/
def execReset (s : State) : Host.Outcome State Fault Refusal := .next (resetState s)

end Sys2Proof.Machine
end

