-- ==== Sys2Proof/Machine/Symbols.lean ====
section
/-! DEFINITION. The meanings of the 85 SYM rows. A symbol is data: it stands in TBUF, DECBLK reads it and ENCBLK writes
it, and no operation of 42_host_interface.md R105 takes one. What its row states are two table reads, ENC_LUT at its
digit value and DEC_LUT at its code (30_encoding.md R55, R56), and table reads have no side effects (00_scope.md R7).
Each meaning makes these two reads, leaves what it read in symRead (the model's own field) and changes no state of B85C
(DESIGN CHOICE, log entry 9). -/

namespace Sys2Proof.Machine

/-- The two table reads of a SYM row. -/
def readSymbol (digit : Nat) (code : Byte) (s : State) : Host.Outcome State Fault Refusal :=
  .next (s.withSymRead (s.build.encLut digit) (s.build.decLookup code.toNat))

/-- SYM_00: digit value 0 and code 0x30 (30_encoding.md R55, R56). -/
def execSym00 (s : State) : Host.Outcome State Fault Refusal := readSymbol 0 0x30#8 s

/-- SYM_01: digit value 1 and code 0x31 (30_encoding.md R55, R56). -/
def execSym01 (s : State) : Host.Outcome State Fault Refusal := readSymbol 1 0x31#8 s

/-- SYM_02: digit value 2 and code 0x32 (30_encoding.md R55, R56). -/
def execSym02 (s : State) : Host.Outcome State Fault Refusal := readSymbol 2 0x32#8 s

/-- SYM_03: digit value 3 and code 0x33 (30_encoding.md R55, R56). -/
def execSym03 (s : State) : Host.Outcome State Fault Refusal := readSymbol 3 0x33#8 s

/-- SYM_04: digit value 4 and code 0x34 (30_encoding.md R55, R56). -/
def execSym04 (s : State) : Host.Outcome State Fault Refusal := readSymbol 4 0x34#8 s

/-- SYM_05: digit value 5 and code 0x35 (30_encoding.md R55, R56). -/
def execSym05 (s : State) : Host.Outcome State Fault Refusal := readSymbol 5 0x35#8 s

/-- SYM_06: digit value 6 and code 0x36 (30_encoding.md R55, R56). -/
def execSym06 (s : State) : Host.Outcome State Fault Refusal := readSymbol 6 0x36#8 s

/-- SYM_07: digit value 7 and code 0x37 (30_encoding.md R55, R56). -/
def execSym07 (s : State) : Host.Outcome State Fault Refusal := readSymbol 7 0x37#8 s

/-- SYM_08: digit value 8 and code 0x38 (30_encoding.md R55, R56). -/
def execSym08 (s : State) : Host.Outcome State Fault Refusal := readSymbol 8 0x38#8 s

/-- SYM_09: digit value 9 and code 0x39 (30_encoding.md R55, R56). -/
def execSym09 (s : State) : Host.Outcome State Fault Refusal := readSymbol 9 0x39#8 s

/-- SYM_10: digit value 10 and code 0x61 (30_encoding.md R55, R56). -/
def execSym10 (s : State) : Host.Outcome State Fault Refusal := readSymbol 10 0x61#8 s

/-- SYM_11: digit value 11 and code 0x62 (30_encoding.md R55, R56). -/
def execSym11 (s : State) : Host.Outcome State Fault Refusal := readSymbol 11 0x62#8 s

/-- SYM_12: digit value 12 and code 0x63 (30_encoding.md R55, R56). -/
def execSym12 (s : State) : Host.Outcome State Fault Refusal := readSymbol 12 0x63#8 s

/-- SYM_13: digit value 13 and code 0x64 (30_encoding.md R55, R56). -/
def execSym13 (s : State) : Host.Outcome State Fault Refusal := readSymbol 13 0x64#8 s

/-- SYM_14: digit value 14 and code 0x65 (30_encoding.md R55, R56). -/
def execSym14 (s : State) : Host.Outcome State Fault Refusal := readSymbol 14 0x65#8 s

/-- SYM_15: digit value 15 and code 0x66 (30_encoding.md R55, R56). -/
def execSym15 (s : State) : Host.Outcome State Fault Refusal := readSymbol 15 0x66#8 s

/-- SYM_16: digit value 16 and code 0x67 (30_encoding.md R55, R56). -/
def execSym16 (s : State) : Host.Outcome State Fault Refusal := readSymbol 16 0x67#8 s

/-- SYM_17: digit value 17 and code 0x68 (30_encoding.md R55, R56). -/
def execSym17 (s : State) : Host.Outcome State Fault Refusal := readSymbol 17 0x68#8 s

/-- SYM_18: digit value 18 and code 0x69 (30_encoding.md R55, R56). -/
def execSym18 (s : State) : Host.Outcome State Fault Refusal := readSymbol 18 0x69#8 s

/-- SYM_19: digit value 19 and code 0x6A (30_encoding.md R55, R56). -/
def execSym19 (s : State) : Host.Outcome State Fault Refusal := readSymbol 19 0x6A#8 s

/-- SYM_20: digit value 20 and code 0x6B (30_encoding.md R55, R56). -/
def execSym20 (s : State) : Host.Outcome State Fault Refusal := readSymbol 20 0x6B#8 s

/-- SYM_21: digit value 21 and code 0x6C (30_encoding.md R55, R56). -/
def execSym21 (s : State) : Host.Outcome State Fault Refusal := readSymbol 21 0x6C#8 s

/-- SYM_22: digit value 22 and code 0x6D (30_encoding.md R55, R56). -/
def execSym22 (s : State) : Host.Outcome State Fault Refusal := readSymbol 22 0x6D#8 s

/-- SYM_23: digit value 23 and code 0x6E (30_encoding.md R55, R56). -/
def execSym23 (s : State) : Host.Outcome State Fault Refusal := readSymbol 23 0x6E#8 s

/-- SYM_24: digit value 24 and code 0x6F (30_encoding.md R55, R56). -/
def execSym24 (s : State) : Host.Outcome State Fault Refusal := readSymbol 24 0x6F#8 s

/-- SYM_25: digit value 25 and code 0x70 (30_encoding.md R55, R56). -/
def execSym25 (s : State) : Host.Outcome State Fault Refusal := readSymbol 25 0x70#8 s

/-- SYM_26: digit value 26 and code 0x71 (30_encoding.md R55, R56). -/
def execSym26 (s : State) : Host.Outcome State Fault Refusal := readSymbol 26 0x71#8 s

/-- SYM_27: digit value 27 and code 0x72 (30_encoding.md R55, R56). -/
def execSym27 (s : State) : Host.Outcome State Fault Refusal := readSymbol 27 0x72#8 s

/-- SYM_28: digit value 28 and code 0x73 (30_encoding.md R55, R56). -/
def execSym28 (s : State) : Host.Outcome State Fault Refusal := readSymbol 28 0x73#8 s

/-- SYM_29: digit value 29 and code 0x74 (30_encoding.md R55, R56). -/
def execSym29 (s : State) : Host.Outcome State Fault Refusal := readSymbol 29 0x74#8 s

/-- SYM_30: digit value 30 and code 0x75 (30_encoding.md R55, R56). -/
def execSym30 (s : State) : Host.Outcome State Fault Refusal := readSymbol 30 0x75#8 s

/-- SYM_31: digit value 31 and code 0x76 (30_encoding.md R55, R56). -/
def execSym31 (s : State) : Host.Outcome State Fault Refusal := readSymbol 31 0x76#8 s

/-- SYM_32: digit value 32 and code 0x77 (30_encoding.md R55, R56). -/
def execSym32 (s : State) : Host.Outcome State Fault Refusal := readSymbol 32 0x77#8 s

/-- SYM_33: digit value 33 and code 0x78 (30_encoding.md R55, R56). -/
def execSym33 (s : State) : Host.Outcome State Fault Refusal := readSymbol 33 0x78#8 s

/-- SYM_34: digit value 34 and code 0x79 (30_encoding.md R55, R56). -/
def execSym34 (s : State) : Host.Outcome State Fault Refusal := readSymbol 34 0x79#8 s

/-- SYM_35: digit value 35 and code 0x7A (30_encoding.md R55, R56). -/
def execSym35 (s : State) : Host.Outcome State Fault Refusal := readSymbol 35 0x7A#8 s

/-- SYM_36: digit value 36 and code 0x41 (30_encoding.md R55, R56). -/
def execSym36 (s : State) : Host.Outcome State Fault Refusal := readSymbol 36 0x41#8 s

/-- SYM_37: digit value 37 and code 0x42 (30_encoding.md R55, R56). -/
def execSym37 (s : State) : Host.Outcome State Fault Refusal := readSymbol 37 0x42#8 s

/-- SYM_38: digit value 38 and code 0x43 (30_encoding.md R55, R56). -/
def execSym38 (s : State) : Host.Outcome State Fault Refusal := readSymbol 38 0x43#8 s

/-- SYM_39: digit value 39 and code 0x44 (30_encoding.md R55, R56). -/
def execSym39 (s : State) : Host.Outcome State Fault Refusal := readSymbol 39 0x44#8 s

/-- SYM_40: digit value 40 and code 0x45 (30_encoding.md R55, R56). -/
def execSym40 (s : State) : Host.Outcome State Fault Refusal := readSymbol 40 0x45#8 s

/-- SYM_41: digit value 41 and code 0x46 (30_encoding.md R55, R56). -/
def execSym41 (s : State) : Host.Outcome State Fault Refusal := readSymbol 41 0x46#8 s

/-- SYM_42: digit value 42 and code 0x47 (30_encoding.md R55, R56). -/
def execSym42 (s : State) : Host.Outcome State Fault Refusal := readSymbol 42 0x47#8 s

/-- SYM_43: digit value 43 and code 0x48 (30_encoding.md R55, R56). -/
def execSym43 (s : State) : Host.Outcome State Fault Refusal := readSymbol 43 0x48#8 s

/-- SYM_44: digit value 44 and code 0x49 (30_encoding.md R55, R56). -/
def execSym44 (s : State) : Host.Outcome State Fault Refusal := readSymbol 44 0x49#8 s

/-- SYM_45: digit value 45 and code 0x4A (30_encoding.md R55, R56). -/
def execSym45 (s : State) : Host.Outcome State Fault Refusal := readSymbol 45 0x4A#8 s

/-- SYM_46: digit value 46 and code 0x4B (30_encoding.md R55, R56). -/
def execSym46 (s : State) : Host.Outcome State Fault Refusal := readSymbol 46 0x4B#8 s

/-- SYM_47: digit value 47 and code 0x4C (30_encoding.md R55, R56). -/
def execSym47 (s : State) : Host.Outcome State Fault Refusal := readSymbol 47 0x4C#8 s

/-- SYM_48: digit value 48 and code 0x4D (30_encoding.md R55, R56). -/
def execSym48 (s : State) : Host.Outcome State Fault Refusal := readSymbol 48 0x4D#8 s

/-- SYM_49: digit value 49 and code 0x4E (30_encoding.md R55, R56). -/
def execSym49 (s : State) : Host.Outcome State Fault Refusal := readSymbol 49 0x4E#8 s

/-- SYM_50: digit value 50 and code 0x4F (30_encoding.md R55, R56). -/
def execSym50 (s : State) : Host.Outcome State Fault Refusal := readSymbol 50 0x4F#8 s

/-- SYM_51: digit value 51 and code 0x50 (30_encoding.md R55, R56). -/
def execSym51 (s : State) : Host.Outcome State Fault Refusal := readSymbol 51 0x50#8 s

/-- SYM_52: digit value 52 and code 0x51 (30_encoding.md R55, R56). -/
def execSym52 (s : State) : Host.Outcome State Fault Refusal := readSymbol 52 0x51#8 s

/-- SYM_53: digit value 53 and code 0x52 (30_encoding.md R55, R56). -/
def execSym53 (s : State) : Host.Outcome State Fault Refusal := readSymbol 53 0x52#8 s

/-- SYM_54: digit value 54 and code 0x53 (30_encoding.md R55, R56). -/
def execSym54 (s : State) : Host.Outcome State Fault Refusal := readSymbol 54 0x53#8 s

/-- SYM_55: digit value 55 and code 0x54 (30_encoding.md R55, R56). -/
def execSym55 (s : State) : Host.Outcome State Fault Refusal := readSymbol 55 0x54#8 s

/-- SYM_56: digit value 56 and code 0x55 (30_encoding.md R55, R56). -/
def execSym56 (s : State) : Host.Outcome State Fault Refusal := readSymbol 56 0x55#8 s

/-- SYM_57: digit value 57 and code 0x56 (30_encoding.md R55, R56). -/
def execSym57 (s : State) : Host.Outcome State Fault Refusal := readSymbol 57 0x56#8 s

/-- SYM_58: digit value 58 and code 0x57 (30_encoding.md R55, R56). -/
def execSym58 (s : State) : Host.Outcome State Fault Refusal := readSymbol 58 0x57#8 s

/-- SYM_59: digit value 59 and code 0x58 (30_encoding.md R55, R56). -/
def execSym59 (s : State) : Host.Outcome State Fault Refusal := readSymbol 59 0x58#8 s

/-- SYM_60: digit value 60 and code 0x59 (30_encoding.md R55, R56). -/
def execSym60 (s : State) : Host.Outcome State Fault Refusal := readSymbol 60 0x59#8 s

/-- SYM_61: digit value 61 and code 0x5A (30_encoding.md R55, R56). -/
def execSym61 (s : State) : Host.Outcome State Fault Refusal := readSymbol 61 0x5A#8 s

/-- SYM_62: digit value 62 and code 0x2E (30_encoding.md R55, R56). -/
def execSym62 (s : State) : Host.Outcome State Fault Refusal := readSymbol 62 0x2E#8 s

/-- SYM_63: digit value 63 and code 0x2D (30_encoding.md R55, R56). -/
def execSym63 (s : State) : Host.Outcome State Fault Refusal := readSymbol 63 0x2D#8 s

/-- SYM_64: digit value 64 and code 0x3A (30_encoding.md R55, R56). -/
def execSym64 (s : State) : Host.Outcome State Fault Refusal := readSymbol 64 0x3A#8 s

/-- SYM_65: digit value 65 and code 0x2B (30_encoding.md R55, R56). -/
def execSym65 (s : State) : Host.Outcome State Fault Refusal := readSymbol 65 0x2B#8 s

/-- SYM_66: digit value 66 and code 0x3D (30_encoding.md R55, R56). -/
def execSym66 (s : State) : Host.Outcome State Fault Refusal := readSymbol 66 0x3D#8 s

/-- SYM_67: digit value 67 and code 0x5E (30_encoding.md R55, R56). -/
def execSym67 (s : State) : Host.Outcome State Fault Refusal := readSymbol 67 0x5E#8 s

/-- SYM_68: digit value 68 and code 0x21 (30_encoding.md R55, R56). -/
def execSym68 (s : State) : Host.Outcome State Fault Refusal := readSymbol 68 0x21#8 s

/-- SYM_69: digit value 69 and code 0x2F (30_encoding.md R55, R56). -/
def execSym69 (s : State) : Host.Outcome State Fault Refusal := readSymbol 69 0x2F#8 s

/-- SYM_70: digit value 70 and code 0x2A (30_encoding.md R55, R56). -/
def execSym70 (s : State) : Host.Outcome State Fault Refusal := readSymbol 70 0x2A#8 s

/-- SYM_71: digit value 71 and code 0x3F (30_encoding.md R55, R56). -/
def execSym71 (s : State) : Host.Outcome State Fault Refusal := readSymbol 71 0x3F#8 s

/-- SYM_72: digit value 72 and code 0x26 (30_encoding.md R55, R56). -/
def execSym72 (s : State) : Host.Outcome State Fault Refusal := readSymbol 72 0x26#8 s

/-- SYM_73: digit value 73 and code 0x3C (30_encoding.md R55, R56). -/
def execSym73 (s : State) : Host.Outcome State Fault Refusal := readSymbol 73 0x3C#8 s

/-- SYM_74: digit value 74 and code 0x3E (30_encoding.md R55, R56). -/
def execSym74 (s : State) : Host.Outcome State Fault Refusal := readSymbol 74 0x3E#8 s

/-- SYM_75: digit value 75 and code 0x28 (30_encoding.md R55, R56). -/
def execSym75 (s : State) : Host.Outcome State Fault Refusal := readSymbol 75 0x28#8 s

/-- SYM_76: digit value 76 and code 0x29 (30_encoding.md R55, R56). -/
def execSym76 (s : State) : Host.Outcome State Fault Refusal := readSymbol 76 0x29#8 s

/-- SYM_77: digit value 77 and code 0x5B (30_encoding.md R55, R56). -/
def execSym77 (s : State) : Host.Outcome State Fault Refusal := readSymbol 77 0x5B#8 s

/-- SYM_78: digit value 78 and code 0x5D (30_encoding.md R55, R56). -/
def execSym78 (s : State) : Host.Outcome State Fault Refusal := readSymbol 78 0x5D#8 s

/-- SYM_79: digit value 79 and code 0x7B (30_encoding.md R55, R56). -/
def execSym79 (s : State) : Host.Outcome State Fault Refusal := readSymbol 79 0x7B#8 s

/-- SYM_80: digit value 80 and code 0x7D (30_encoding.md R55, R56). -/
def execSym80 (s : State) : Host.Outcome State Fault Refusal := readSymbol 80 0x7D#8 s

/-- SYM_81: digit value 81 and code 0x40 (30_encoding.md R55, R56). -/
def execSym81 (s : State) : Host.Outcome State Fault Refusal := readSymbol 81 0x40#8 s

/-- SYM_82: digit value 82 and code 0x25 (30_encoding.md R55, R56). -/
def execSym82 (s : State) : Host.Outcome State Fault Refusal := readSymbol 82 0x25#8 s

/-- SYM_83: digit value 83 and code 0x24 (30_encoding.md R55, R56). -/
def execSym83 (s : State) : Host.Outcome State Fault Refusal := readSymbol 83 0x24#8 s

/-- SYM_84: digit value 84 and code 0x23 (30_encoding.md R55, R56). -/
def execSym84 (s : State) : Host.Outcome State Fault Refusal := readSymbol 84 0x23#8 s

end Sys2Proof.Machine
end

