-- ==== Sys2Proof/Machine/Dispatch.lean ====
section
/-! DEFINITION. One arm per instruction, each one call of its meaning. -/

namespace Sys2Proof.Machine

def exec (i : Instr) (s : State) : Host.Outcome State Fault Refusal :=
  match i with
  | .dec n => Sys2Proof.Machine.execDec n s
  | .enc n => Sys2Proof.Machine.execEnc n s
  | .decblk => Sys2Proof.Machine.execDecblk s
  | .decfin => Sys2Proof.Machine.execDecfin s
  | .encblk => Sys2Proof.Machine.execEncblk s
  | .encfin => Sys2Proof.Machine.execEncfin s
  | .wrt k c => Sys2Proof.Machine.execWrt k c s
  | .wrb k v => Sys2Proof.Machine.execWrb k v s
  | .rdt k => Sys2Proof.Machine.execRdt k s
  | .rdb k => Sys2Proof.Machine.execRdb k s
  | .rds => Sys2Proof.Machine.execRds s
  | .rdl => Sys2Proof.Machine.execRdl s
  | .rdc => Sys2Proof.Machine.execRdc s
  | .reset => Sys2Proof.Machine.execReset s
  | .sym_00 => Sys2Proof.Machine.execSym00 s
  | .sym_01 => Sys2Proof.Machine.execSym01 s
  | .sym_02 => Sys2Proof.Machine.execSym02 s
  | .sym_03 => Sys2Proof.Machine.execSym03 s
  | .sym_04 => Sys2Proof.Machine.execSym04 s
  | .sym_05 => Sys2Proof.Machine.execSym05 s
  | .sym_06 => Sys2Proof.Machine.execSym06 s
  | .sym_07 => Sys2Proof.Machine.execSym07 s
  | .sym_08 => Sys2Proof.Machine.execSym08 s
  | .sym_09 => Sys2Proof.Machine.execSym09 s
  | .sym_10 => Sys2Proof.Machine.execSym10 s
  | .sym_11 => Sys2Proof.Machine.execSym11 s
  | .sym_12 => Sys2Proof.Machine.execSym12 s
  | .sym_13 => Sys2Proof.Machine.execSym13 s
  | .sym_14 => Sys2Proof.Machine.execSym14 s
  | .sym_15 => Sys2Proof.Machine.execSym15 s
  | .sym_16 => Sys2Proof.Machine.execSym16 s
  | .sym_17 => Sys2Proof.Machine.execSym17 s
  | .sym_18 => Sys2Proof.Machine.execSym18 s
  | .sym_19 => Sys2Proof.Machine.execSym19 s
  | .sym_20 => Sys2Proof.Machine.execSym20 s
  | .sym_21 => Sys2Proof.Machine.execSym21 s
  | .sym_22 => Sys2Proof.Machine.execSym22 s
  | .sym_23 => Sys2Proof.Machine.execSym23 s
  | .sym_24 => Sys2Proof.Machine.execSym24 s
  | .sym_25 => Sys2Proof.Machine.execSym25 s
  | .sym_26 => Sys2Proof.Machine.execSym26 s
  | .sym_27 => Sys2Proof.Machine.execSym27 s
  | .sym_28 => Sys2Proof.Machine.execSym28 s
  | .sym_29 => Sys2Proof.Machine.execSym29 s
  | .sym_30 => Sys2Proof.Machine.execSym30 s
  | .sym_31 => Sys2Proof.Machine.execSym31 s
  | .sym_32 => Sys2Proof.Machine.execSym32 s
  | .sym_33 => Sys2Proof.Machine.execSym33 s
  | .sym_34 => Sys2Proof.Machine.execSym34 s
  | .sym_35 => Sys2Proof.Machine.execSym35 s
  | .sym_36 => Sys2Proof.Machine.execSym36 s
  | .sym_37 => Sys2Proof.Machine.execSym37 s
  | .sym_38 => Sys2Proof.Machine.execSym38 s
  | .sym_39 => Sys2Proof.Machine.execSym39 s
  | .sym_40 => Sys2Proof.Machine.execSym40 s
  | .sym_41 => Sys2Proof.Machine.execSym41 s
  | .sym_42 => Sys2Proof.Machine.execSym42 s
  | .sym_43 => Sys2Proof.Machine.execSym43 s
  | .sym_44 => Sys2Proof.Machine.execSym44 s
  | .sym_45 => Sys2Proof.Machine.execSym45 s
  | .sym_46 => Sys2Proof.Machine.execSym46 s
  | .sym_47 => Sys2Proof.Machine.execSym47 s
  | .sym_48 => Sys2Proof.Machine.execSym48 s
  | .sym_49 => Sys2Proof.Machine.execSym49 s
  | .sym_50 => Sys2Proof.Machine.execSym50 s
  | .sym_51 => Sys2Proof.Machine.execSym51 s
  | .sym_52 => Sys2Proof.Machine.execSym52 s
  | .sym_53 => Sys2Proof.Machine.execSym53 s
  | .sym_54 => Sys2Proof.Machine.execSym54 s
  | .sym_55 => Sys2Proof.Machine.execSym55 s
  | .sym_56 => Sys2Proof.Machine.execSym56 s
  | .sym_57 => Sys2Proof.Machine.execSym57 s
  | .sym_58 => Sys2Proof.Machine.execSym58 s
  | .sym_59 => Sys2Proof.Machine.execSym59 s
  | .sym_60 => Sys2Proof.Machine.execSym60 s
  | .sym_61 => Sys2Proof.Machine.execSym61 s
  | .sym_62 => Sys2Proof.Machine.execSym62 s
  | .sym_63 => Sys2Proof.Machine.execSym63 s
  | .sym_64 => Sys2Proof.Machine.execSym64 s
  | .sym_65 => Sys2Proof.Machine.execSym65 s
  | .sym_66 => Sys2Proof.Machine.execSym66 s
  | .sym_67 => Sys2Proof.Machine.execSym67 s
  | .sym_68 => Sys2Proof.Machine.execSym68 s
  | .sym_69 => Sys2Proof.Machine.execSym69 s
  | .sym_70 => Sys2Proof.Machine.execSym70 s
  | .sym_71 => Sys2Proof.Machine.execSym71 s
  | .sym_72 => Sys2Proof.Machine.execSym72 s
  | .sym_73 => Sys2Proof.Machine.execSym73 s
  | .sym_74 => Sys2Proof.Machine.execSym74 s
  | .sym_75 => Sys2Proof.Machine.execSym75 s
  | .sym_76 => Sys2Proof.Machine.execSym76 s
  | .sym_77 => Sys2Proof.Machine.execSym77 s
  | .sym_78 => Sys2Proof.Machine.execSym78 s
  | .sym_79 => Sys2Proof.Machine.execSym79 s
  | .sym_80 => Sys2Proof.Machine.execSym80 s
  | .sym_81 => Sys2Proof.Machine.execSym81 s
  | .sym_82 => Sys2Proof.Machine.execSym82 s
  | .sym_83 => Sys2Proof.Machine.execSym83 s
  | .sym_84 => Sys2Proof.Machine.execSym84 s

end Sys2Proof.Machine
end

