-- ==== Sys2Proof/Machine/Sequencer.lean ====
section
/-! DEFINITION. Which agent moves next and what it presents (00_scope.md R8, 30_encoding.md R60, log entry 7). -/

namespace Sys2Proof.Machine

/-- The item of the next turn and the state with that turn taken from the inbox: the host's item, or the engine's
selector. With nothing waiting the turn is the engine's (70_reset_and_hazards.md R153). -/
def State.turn (s : State) : Item × State :=
  match s.inbox with
  | .host h :: rest => (.host h, { s with inbox := rest })
  | .engine :: rest => (.sel s.sel, { s with inbox := rest })
  | [] => (.sel s.sel, s)

/-- The state with an item put where the next turn takes it from. A host item is put at the front of the inbox. A selector
is no stored word (30_encoding.md R60): the engine's turn is put there, and STATUS, CMD.DIR and NBLK are set so that SEL
is the given value (log entry 13). -/
def State.withItem (s : State) : Item → State
  | .host h => { s with inbox := .host h :: s.inbox }
  | .sel w =>
    { s with
      inbox := .engine :: s.inbox
      status := if w.getLsbD 2 then Status.running else { s.status with busy := false }
      cmd := commandWord (w.getLsbD 1) (s.cmd.extractLsb' 0 31)
      nblk := if w.getLsbD 0 then s.blk else s.blk + 1 }

end Sys2Proof.Machine
end

