-- ==== Sys2Proof/Machine/Step.lean ====
section
/-! DEFINITION. One step: the item of the next turn is decoded and run. -/

namespace Sys2Proof.Machine

/-- One step. An engine turn whose selector selects nothing leaves the engine idle (30_encoding.md R60). -/
def step (s : State) : Host.Outcome State Fault Refusal :=
  match decode s.turn.1 with
  | .ok i => exec i s.turn.2
  | .error (.noStepSelected _) => .next s.turn.2
  | .error r => .refused (.undecodable r)

/-- The state with a table word put where step takes its next item from (log entry 13). Bits of no format place
nothing. -/
def State.withFetchWord (s : State) (nbits w : Nat) : State :=
  match itemOfBits nbits w with
  | .ok x => s.withItem x
  | .error _ => s

end Sys2Proof.Machine
end

