-- ==== Sys2Proof/Machine/Notation.lean ====
section
/-! DEFINITION. The line notation for host programs and its pseudo-operations, as lists of turns for the inbox
(30_encoding.md R65, R66). A program's WAIT repeats RDS until DONE = 1; an inbox is a fixed list, so here a WAIT for a
call of `k` engine steps is those engine turns and one RDS (log entry 7). -/

namespace Sys2Proof.Machine

/-- LDT "s" from index `i` on: WRT i, s[0]; WRT i+1, s[1]; ... -/
def ldtFrom : Nat → List Code → List Turn
  | _, [] => []
  | i, c :: cs => .host (.port (.writeText i c)) :: ldtFrom (i + 1) cs

/-- LDT "s" (30_encoding.md R66). -/
def ldt (text : List Code) : List Turn := ldtFrom 0 text

/-- LDB from index `i` on. -/
def ldbFrom : Nat → List Byte → List Turn
  | _, [] => []
  | i, v :: vs => .host (.port (.writeByte i v)) :: ldbFrom (i + 1) vs

/-- LDB h0 .. hk (30_encoding.md R66). -/
def ldb (bytes : List Byte) : List Turn := ldbFrom 0 bytes

/-- DEC n or ENC n (30_encoding.md R65). -/
def startTurn (dir : Bool) (n : Nat) : Turn := .host (.cmd (commandWord dir (BitVec.ofNat 31 n)))

/-- WAIT for a call of `k` engine steps (30_encoding.md R66). -/
def waitFor (k : Nat) : List Turn := List.replicate k .engine ++ [.host (.port .readStatus)]

/-- DECODE "s" (30_encoding.md R66). -/
def decodeProgram (text : List Code) : List Turn :=
  ldt text ++ startTurn false text.length :: waitFor (text.length / 5 + 1)

/-- ENCODE h0 .. hk (30_encoding.md R66). -/
def encodeProgram (bytes : List Byte) : List Turn :=
  ldb bytes ++ startTurn true bytes.length :: waitFor (bytes.length / 4 + 1)

/-- GETB for a result of `m` bytes (30_encoding.md R66). -/
def getb (m : Nat) : List Turn := .host (.port .readLength) :: (List.range m).map fun i => .host (.port (.readByte i))

/-- GETT for a result of `m` characters (30_encoding.md R66). -/
def gett (m : Nat) : List Turn := .host (.port .readLength) :: (List.range m).map fun i => .host (.port (.readText i))

end Sys2Proof.Machine
end

