-- ==== Sys2Proof/Machine/Contract.lean ====
section
/-! DEFINITION. The call contract as pure functions, written from the spec's own formulas and not from the steps
(40_decode.md R82, 41_encode.md R99), with the validity of a character and of a group (30_encoding.md R61, R52). -/

namespace Sys2Proof.Machine

/-- ok(out) or err(InvalidInput, cause). -/
inductive CallResult (α : Type)
  | ok (out : List α)
  | err (k : Cause)
deriving DecidableEq, Repr

/-- A code is an invalid character: 128 or above, or an ASCII code whose entry is SENTINEL (30_encoding.md R61). -/
def invalidCode (p : Params) (c : Code) : Bool := decide (128 ≤ c) || p.decLut (BitVec.ofNat 7 c) == Config.sentinel

/-- S_b, the sum over j in 0..4 of DEC_LUT[t[5*b+j]] * 85^(4-j). -/
def groupSum (p : Params) (t : List Code) (b : Nat) : Nat :=
  ((List.range 5).map fun j => (p.decLut (BitVec.ofNat 7 (t.getD (5 * b + j) 0))).toNat * 85 ^ (4 - j)).sum

/-- The four bytes of a value below 2^32, the most significant first. -/
def bigEndian (v : Nat) : List Byte :=
  [BitVec.ofNat 8 (v / 2 ^ 24), BitVec.ofNat 8 (v / 2 ^ 16), BitVec.ofNat 8 (v / 2 ^ 8), BitVec.ofNat 8 v]

/-- DecodeCall(t) (40_decode.md R82). -/
def decodeCall (p : Params) (t : List Code) : CallResult Byte :=
  if t.length % 5 ≠ 0 then .err .length
  else if t.length > 5 * p.maxBlocks then .err .capacity
  else if t.any (invalidCode p) then .err .character
  else .ok ((List.range (t.length / 5)).flatMap fun b => bigEndian (groupSum p t b % 2 ^ 32))

/-- V_b, the big-endian value of bytes 4*b to 4*b+3 of the input. -/
def quadValue (x : List Byte) (b : Nat) : Nat :=
  (x.getD (4 * b) 0).toNat * 2 ^ 24 + (x.getD (4 * b + 1) 0).toNat * 2 ^ 16 + (x.getD (4 * b + 2) 0).toNat * 2 ^ 8
    + (x.getD (4 * b + 3) 0).toNat

/-- EncodeCall(x) (41_encode.md R99). -/
def encodeCall (p : Params) (x : List Byte) : CallResult Byte :=
  if x.length % 4 ≠ 0 then .err .length
  else if x.length > 4 * p.maxBlocks then .err .capacity
  else .ok ((List.range (x.length / 4)).flatMap fun b =>
    (List.range 5).map fun j => p.encLut (quadValue x b / 85 ^ (4 - j) % 85))

/-- Every group of the text is canonical: its radix-85 sum is below 2^32 (30_encoding.md R52). -/
def canonicalText (p : Params) (t : List Code) : Bool :=
  (List.range (t.length / 5)).all fun b => decide (groupSum p t b < 2 ^ 32)

end Sys2Proof.Machine
end

