-- ==== Sys2Proof/Safety.lean ====
section
/-! DEFINITION. What counts as a legal state, and a run of several steps, in the terms the statements use. -/

namespace Sys2Proof.Machine

/-- The reachable values of STATUS (10_state.md R19). -/
abbrev Status.legal (t : Status) : Prop :=
  t = Status.idle ∨ t = Status.running ∨ t = Status.succeeded ∨ t = Status.failed .length
    ∨ t = Status.failed .character ∨ t = Status.failed .capacity

/-- The datapath registers whose type does not fix it hold values of their widths (10_state.md R17). -/
abbrev Datapath.wf (p : Params) (d : Datapath) : Prop :=
  (d.c.e0 < 2 ^ p.charW ∧ d.c.e1 < 2 ^ p.charW ∧ d.c.e2 < 2 ^ p.charW ∧ d.c.e3 < 2 ^ p.charW ∧ d.c.e4 < 2 ^ p.charW)
    ∧ d.s < 2 ^ 34

/-- The buffers are in canonical form, every unit inside its buffer and within its width (20_memory.md R30). -/
abbrev State.buffersWf (s : State) : Prop :=
  Memory.wf s.build.textCap (fun c => decide (c < 2 ^ s.build.charW)) s.tbuf = true
    ∧ Memory.wf s.build.binCap (fun _ => true) s.bbuf = true

/-- The invariant of the machine. -/
structure State.Inv (s : State) : Prop where
  /-- The instance is admissible (00_scope.md R6). -/
  build : s.build.ok = true
  /-- STATUS is one of the reachable values (10_state.md R19). -/
  status : s.status.legal
  /-- BLK is at most NBLK (10_state.md R16). -/
  blk : s.blk ≤ s.nblk
  /-- NBLK is at most MAX_BLOCKS (10_state.md R16). -/
  nblk : s.nblk ≤ s.build.maxBlocks
  /-- While a call runs, ILEN is NBLK whole blocks (10_state.md R16). -/
  length : s.status.busy = true → cmdLen s.cmd = unitOf (cmdDir s.cmd) * s.nblk
  /-- OLEN is 0 but after a success (10_state.md R19, R20). -/
  olen : s.status ≠ Status.succeeded → s.olen = 0
  /-- After a success OLEN is the output's length (10_state.md R20). -/
  olenDone : s.status = Status.succeeded → s.olen.toNat = (if cmdDir s.cmd then 5 else 4) * s.nblk
  /-- CANARY has CHAR_W bits (10_state.md R15). -/
  canary : s.canary < 2 ^ s.build.charW
  /-- CANARY is 0 from START on in an encode call (41_encode.md R98). -/
  canaryEncode : cmdDir s.cmd = true → s.canary = 0
  /-- The datapath registers fit their widths. -/
  datapath : s.dp.wf s.build
  /-- The buffers are canonical. -/
  buffers : s.buffersWf

/-- `k` steps of the machine. -/
def steps (k : Nat) (s : State) : Host.Outcome State Fault Refusal := Host.Core.run Sys2Proof.core k s

end Sys2Proof.Machine
end

