-- ==== Sys2Proof/Certificates/Slice0/Obligations.lean ====
section
/-! DEFINITION. The statements for the provers. Each is about the machine, for every admissible instance: the
parameters stand in State, so a statement over every state is one over every ALPHABET, CHAR_W and MAX_BLOCKS. -/

open Sys2Proof Sys2Proof.Machine

/-! Encoding and decoding -/

/-- Words written out from 30_encoding.md R55, R59 and R60 decode to what they stand for. -/
def Obligations.KnownWordsDecode : Prop :=
  decode (.host (.cmd 0b00000000000000000000000000001010#32)) = .ok (.dec 10)
    ∧ decode (.host (.cmd 0b10000000000000000000000000010000#32)) = .ok (.enc 16)
    ∧ decode (.sel 0b100#3) = .ok .decblk ∧ decode (.sel 0b101#3) = .ok .decfin
    ∧ decode (.sel 0b110#3) = .ok .encblk ∧ decode (.sel 0b111#3) = .ok .encfin
    ∧ decode (.sel 0b001#3) = .error (.noStepSelected 0b001#3)
    ∧ decode (.host (.sym 0b00110000#8)) = .ok .sym_00 ∧ decode (.host (.sym 0b00100011#8)) = .ok .sym_84
    ∧ decode (.host (.sym 0b00100000#8)) = .error (.notASymbol 0b00100000#8)
    ∧ decode (.host (.port (.writeText 0 0x48))) = .ok (.wrt 0 0x48)

/-- 30_encoding.md R59: a decoder of command words is total, bit 31 selects the operation and the other 31 bits are the
length; the word is what START writes to CMD. -/
def Obligations.CommandWordSelectsByBit31 : Prop :=
  ∀ w : Word,
    (w.toNat < 2 ^ 31 → ∃ n : BitVec 31, n.toNat = w.toNat ∧ decode (.host (.cmd w)) = .ok (.dec n)
      ∧ ∀ s : State, s.status.busy = false → ∃ t, exec (.dec n) s = .next t ∧ t.cmd = w)
    ∧ (2 ^ 31 ≤ w.toNat → ∃ n : BitVec 31, n.toNat = w.toNat - 2 ^ 31 ∧ decode (.host (.cmd w)) = .ok (.enc n)
      ∧ ∀ s : State, s.status.busy = false → ∃ t, exec (.enc n) s = .next t ∧ t.cmd = w)

/-- Decoding and encoding agree in both directions, every operand at every value: no bit of an encoded form is dropped
and no two forms decode to one instruction. -/
def Obligations.DecodeAndEncodeAgree : Prop :=
  (∀ i : Instr, decode (encode i) = .ok i) ∧ ∀ (x : Item) (i : Instr), decode x = .ok i → encode i = x

/-! The step -/

/-- A step whose turn is the host's runs the instruction its item decodes to, on the state with the item taken from the
inbox; the interleaving itself is the model's choice (log entry 7). -/
def Obligations.StepRunsTheHostItem : Prop :=
  ∀ (s : State) (h : HostItem) (rest : List Turn) (i : Instr),
    s.inbox = .host h :: rest → decode (.host h) = .ok i → step s = exec i { s with inbox := rest }

/-- 30_encoding.md R60: SEL is BUSY, DIR, LAST; with BUSY = 1 exactly one engine step is enabled and SEL selects it, with
BUSY = 0 none is enabled and SEL selects none. BLK <= NBLK is 10_state.md R16. -/
def Obligations.SelectorSelectsTheEnabledStep : Prop :=
  ∀ s : State, s.blk ≤ s.nblk →
    (s.status.busy = false → s.sel.getLsbD 2 = false ∧ decode (.sel s.sel) = .error (.noStepSelected s.sel))
    ∧ (s.status.busy = true → cmdDir s.cmd = false → s.blk < s.nblk →
        s.sel = 0b100#3 ∧ decode (.sel s.sel) = .ok .decblk ∧ s.decblkEnabled = true)
    ∧ (s.status.busy = true → cmdDir s.cmd = false → s.blk = s.nblk →
        s.sel = 0b101#3 ∧ decode (.sel s.sel) = .ok .decfin ∧ s.decfinEnabled = true)
    ∧ (s.status.busy = true → cmdDir s.cmd = true → s.blk < s.nblk →
        s.sel = 0b110#3 ∧ decode (.sel s.sel) = .ok .encblk ∧ s.encblkEnabled = true)
    ∧ (s.status.busy = true → cmdDir s.cmd = true → s.blk = s.nblk →
        s.sel = 0b111#3 ∧ decode (.sel s.sel) = .ok .encfin ∧ s.encfinEnabled = true)
    ∧ [s.decblkEnabled, s.decfinEnabled, s.encblkEnabled, s.encfinEnabled].count true = (if s.status.busy then 1 else 0)

/-- A step whose turn is the engine's runs the instruction SEL selects, and leaves an idle engine idle. When the turn is the
engine's is the model's choice (log entry 7). -/
def Obligations.EngineTurnRunsTheSelectedStep : Prop :=
  ∀ s u : State,
    (s.inbox = [] ∧ u = s) ∨ (∃ rest, s.inbox = .engine :: rest ∧ u = { s with inbox := rest }) →
    (s.status.busy = false → step s = .next u)
    ∧ ∀ i : Instr, decode (.sel s.sel) = .ok i → step s = exec i u

/-- An engine step named when it is not enabled is not taken: the model's choice (log entry 8). -/
def Obligations.EngineStepNotEnabledChangesNothing : Prop :=
  ∀ s : State,
    (¬ (s.status.busy = true ∧ cmdDir s.cmd = false ∧ s.blk < s.nblk) → exec .decblk s = .next s)
    ∧ (¬ (s.status.busy = true ∧ cmdDir s.cmd = false ∧ s.blk = s.nblk) → exec .decfin s = .next s)
    ∧ (¬ (s.status.busy = true ∧ cmdDir s.cmd = true ∧ s.blk < s.nblk) → exec .encblk s = .next s)
    ∧ (¬ (s.status.busy = true ∧ cmdDir s.cmd = true ∧ s.blk = s.nblk) → exec .encfin s = .next s)

/-- A table word placed where the next item is taken from is what the next step runs, a selector with its engine step
selected and enabled: the model's loading convention (log entry 13). -/
def Obligations.PlacedWordIsRunNext : Prop :=
  ∀ (s : State) (nbits w : Nat) (i : Instr), decodeTableWord nbits w = some i →
    ∃ u, step (s.withFetchWord nbits w) = exec i u ∧ u = (s.withFetchWord nbits w).turn.2
      ∧ u.inbox = s.inbox ∧ u.tbuf = s.tbuf ∧ u.bbuf = s.bbuf
      ∧ (i.format ≠ .sel → u = s)
      ∧ (i.format = .sel → u.sel = BitVec.ofNat 3 w)
      ∧ (i = .decblk → u.decblkEnabled = true) ∧ (i = .decfin → u.decfinEnabled = true)
      ∧ (i = .encblk → u.encblkEnabled = true) ∧ (i = .encfin → u.encfinEnabled = true)

/-! The tables -/

/-- 30_encoding.md R57: the decode table inverts the encode table, every other code decodes to the sentinel, and the
consequences. -/
def Obligations.TablesInvertEachOther : Prop :=
  ∀ p : Params, p.ok = true →
    (∀ i : Nat, i < 85 → (p.encLut i).getLsbD 7 = false ∧ p.decLut ((p.encLut i).setWidth 7) = BitVec.ofNat 8 i)
    ∧ (∀ a : BitVec 7, (∀ i : Nat, i < 85 → p.encLut i ≠ a.setWidth 8) → p.decLut a = 0xFF#8)
    ∧ (∀ a : BitVec 7, (p.decLut a).toNat ≤ 84 ↔ ∃ i : Nat, i < 85 ∧ p.encLut i = a.setWidth 8)
    ∧ (∀ a : BitVec 7, (p.decLut a).toNat ≤ 84 → p.encLut (p.decLut a).toNat = a.setWidth 8)
    ∧ (∀ i j : Nat, i < 85 → j < 85 → p.encLut i = p.encLut j → i = j)

/-- Each of the 85 SYM rows, SYM_00 to SYM_84, completes from every state: it makes the two table reads of its row and
changes no state of B85C; for the default alphabet the two reads are the row's code and digit value (30_encoding.md
R55, R56). That a symbol is run at all, and symRead, are the model's choice (log entry 9). -/
def Obligations.SymbolRowsReadTheirTableEntries : Prop :=
  (∀ (k : Nat) (code : Byte) (i : Instr), symRows[k]? = some (code, i) →
    decode (.host (.sym code)) = .ok i
      ∧ (∀ s : State, exec i s = .next { s with symRead := (s.build.encLut k, s.build.decLut (BitVec.ofNat 7 code.toNat)) })
      ∧ Config.defaultParams.encLut k = code
      ∧ Config.defaultParams.decLut (BitVec.ofNat 7 code.toNat) = BitVec.ofNat 8 k)
    ∧ symRows.length = 85
    ∧ ∀ i : Instr, i.format = .sym → ∃ code : Byte, (code, i) ∈ symRows

/-! The host's operations -/

/-- 42_host_interface.md R106. -/
def Obligations.WrtWritesItsUnit : Prop :=
  ∀ (s : State) (i : Nat) (c : Code), c < 2 ^ s.build.charW →
    ∃ t, exec (.wrt i c) s = .next t
      ∧ t = { s with tbuf := t.tbuf }
      ∧ (s.status.busy = false → i < 5 * s.build.maxBlocks → t.readText i = c)
      ∧ (∀ j : Nat, j ≠ i → t.readText j = s.readText j)
      ∧ (∀ j : Nat, t.readByte j = s.readByte j)
      ∧ (s.status.busy = true ∨ 5 * s.build.maxBlocks ≤ i → t = s)

/-- A code operand with bits above CHAR_W: the port carries CHAR_W bits, and the bits above them do not reach the unit,
the model's choice (log entry 11). -/
def Obligations.WrtCutsTheCodeToCharWidth : Prop :=
  ∀ (s : State) (i : Nat) (c : Code),
    exec (.wrt i c) s = exec (.wrt i (c % 2 ^ s.build.charW)) s
      ∧ ∃ t, exec (.wrt i c) s = .next t
        ∧ (s.status.busy = false → i < 5 * s.build.maxBlocks → t.readText i = c % 2 ^ s.build.charW)

/-- 42_host_interface.md R107. -/
def Obligations.WrbWritesItsByte : Prop :=
  ∀ (s : State) (i : Nat) (v : Byte),
    ∃ t, exec (.wrb i v) s = .next t
      ∧ t = { s with bbuf := t.bbuf }
      ∧ (s.status.busy = false → i < 4 * s.build.maxBlocks → t.readByte i = v)
      ∧ (∀ j : Nat, j ≠ i → t.readByte j = s.readByte j)
      ∧ (∀ j : Nat, t.readText j = s.readText j)
      ∧ (s.status.busy = true ∨ 4 * s.build.maxBlocks ≤ i → t = s)

/-- 42_host_interface.md R108: RDT gives the host the unit, or an unspecified code while busy or out of range, and
changes nothing. That the code is one of CHAR_W bits is the operation's return width (R105). The returned value stands
in reply, the model's field (log entry 10). -/
def Obligations.RdtReturnsTheUnit : Prop :=
  ∀ (s : State) (i : Nat),
    ∃ (t : State) (c : Code), exec (.rdt i) s = .next t
      ∧ t = { s with reply := .code c, draws := t.draws }
      ∧ (s.status.busy = false → i < 5 * s.build.maxBlocks → c = s.readText i ∧ t.draws = s.draws)
      ∧ (s.status.busy = true ∨ 5 * s.build.maxBlocks ≤ i → c < 2 ^ s.build.charW)
      ∧ (∀ j : Nat, t.readText j = s.readText j ∧ t.readByte j = s.readByte j)

/-- 42_host_interface.md R109: RDB gives the host the byte, or an unspecified byte while busy or out of range, and
changes nothing. -/
def Obligations.RdbReturnsTheByte : Prop :=
  ∀ (s : State) (i : Nat),
    ∃ (t : State) (v : Byte), exec (.rdb i) s = .next t
      ∧ t = { s with reply := .byte v, draws := t.draws }
      ∧ (s.status.busy = false → i < 4 * s.build.maxBlocks → v = s.readByte i ∧ t.draws = s.draws)
      ∧ (∀ j : Nat, t.readText j = s.readText j ∧ t.readByte j = s.readByte j)

/-- 42_host_interface.md R111, R112: RDS and RDL (and RDC, R113) return their register at any time and change nothing; while BUSY = 1
RDL returns 0. -/
def Obligations.RdsRdlRdcReturnTheirRegisters : Prop :=
  ∀ s : State,
    exec .rds s = .next { s with reply := .status s.status.byte }
    ∧ exec .rdl s = .next { s with reply := .length s.olen }
    ∧ exec .rdc s = .next { s with reply := .command s.cmd }
    ∧ (s.Inv → s.status.busy = true → s.olen = 0)

/-- The bits of STATUS, its reachable values, its invariants, and its only writers START, the FIN steps and RESET
(10_state.md, section 7). The reachable values and the invariants are an inference the spec marks as its own: it derives
them from the rules of those writers. -/
def Obligations.StatusLayoutValuesAndWriters : Prop :=
  (∀ t : Status, t.byte.getLsbD 0 = t.busy ∧ t.byte.getLsbD 1 = t.done ∧ t.byte.getLsbD 2 = t.err
      ∧ (t.byte.toNat / 8 % 4 = match t.cause with | .none => 0 | .length => 1 | .character => 2 | .capacity => 3)
      ∧ t.byte.toNat < 32)
  ∧ (∀ s : State, s.Inv →
      (s.status.byte.toNat = 0x00 ∨ s.status.byte.toNat = 0x01 ∨ s.status.byte.toNat = 0x02 ∨ s.status.byte.toNat = 0x0E
        ∨ s.status.byte.toNat = 0x16 ∨ s.status.byte.toNat = 0x1E)
      ∧ ¬ (s.status.busy = true ∧ s.status.done = true)
      ∧ (s.status.err = true → s.status.done = true ∧ s.olen = 0)
      ∧ (s.status.cause ≠ .none ↔ s.status.err = true))
  ∧ ∀ (i : Instr) (s t : State), exec i s = .next t →
      i ≠ .decfin → i ≠ .encfin → i ≠ .reset → i.format ≠ .cmd → t.status = s.status

/-- 42_host_interface.md R110: START, as DEC n (DIR = 0) and as ENC n (DIR = 1). Ignored while busy; else CMD is written,
the previous result cleared, the length checked and then the capacity, and the call begun if both hold. -/
def Obligations.StartChecksTheLengthThenBegins : Prop :=
  (∀ (s : State) (n : BitVec 31) (w : Word), w.toNat = n.toNat →
    (s.status.busy = true → exec (.dec n) s = .next s)
    ∧ (s.status.busy = false → n.toNat % 5 ≠ 0 →
        exec (.dec n) s = .next { s with
          cmd := w, olen := 0, canary := 0, blk := 0, nblk := 0, status := ⟨false, true, true, .length⟩ })
    ∧ (s.status.busy = false → n.toNat % 5 = 0 → s.build.maxBlocks < n.toNat / 5 →
        exec (.dec n) s = .next { s with
          cmd := w, olen := 0, canary := 0, blk := 0, nblk := 0, status := ⟨false, true, true, .capacity⟩ })
    ∧ (s.status.busy = false → n.toNat % 5 = 0 → n.toNat / 5 ≤ s.build.maxBlocks →
        exec (.dec n) s = .next { s with
          cmd := w, olen := 0, canary := 0, blk := 0, nblk := n.toNat / 5, status := ⟨true, false, false, .none⟩ }))
  ∧ ∀ (s : State) (n : BitVec 31) (w : Word), w.toNat = 2 ^ 31 + n.toNat →
    (s.status.busy = true → exec (.enc n) s = .next s)
    ∧ (s.status.busy = false → n.toNat % 4 ≠ 0 →
        exec (.enc n) s = .next { s with
          cmd := w, olen := 0, canary := 0, blk := 0, nblk := 0, status := ⟨false, true, true, .length⟩ })
    ∧ (s.status.busy = false → n.toNat % 4 = 0 → s.build.maxBlocks < n.toNat / 4 →
        exec (.enc n) s = .next { s with
          cmd := w, olen := 0, canary := 0, blk := 0, nblk := 0, status := ⟨false, true, true, .capacity⟩ })
    ∧ (s.status.busy = false → n.toNat % 4 = 0 → n.toNat / 4 ≤ s.build.maxBlocks →
        exec (.enc n) s = .next { s with
          cmd := w, olen := 0, canary := 0, blk := 0, nblk := n.toNat / 4, status := ⟨true, false, false, .none⟩ })

/-- 42_host_interface.md R114: while BUSY = 1, WRT, WRB and START are ignored, RDT and RDB return any value, RDS, RDL,
RDC work normally, and RESET works. -/
def Obligations.BusyHostAccesses : Prop :=
  ∀ s : State, s.status.busy = true →
    (∀ (i : Nat) (c : Code), exec (.wrt i c) s = .next s)
    ∧ (∀ (i : Nat) (v : Byte), exec (.wrb i v) s = .next s)
    ∧ (∀ n : BitVec 31, exec (.dec n) s = .next s ∧ exec (.enc n) s = .next s)
    ∧ (∀ i : Nat, ∃ (c : Code) (k : Nat), exec (.rdt i) s = .next { s with reply := .code c, draws := k })
    ∧ (∀ i : Nat, ∃ (v : Byte) (k : Nat), exec (.rdb i) s = .next { s with reply := .byte v, draws := k })
    ∧ exec .rds s = .next { s with reply := .status s.status.byte }
    ∧ exec .rdl s = .next { s with reply := .length s.olen }
    ∧ exec .rdc s = .next { s with reply := .command s.cmd }
    ∧ ∃ t, exec .reset s = .next t ∧ t.status = Status.idle ∧ t.cmd = 0 ∧ t.olen = 0

/-- 20_memory.md R37: an index at or above the capacity reaches no unit: a write changes nothing, a read returns any
value, no error is raised and no register changes. -/
def Obligations.IndexOutOfRangeReachesNoUnit : Prop :=
  ∀ (s : State) (i : Nat),
    (5 * s.build.maxBlocks ≤ i →
      (∀ c : Code, exec (.wrt i c) s = .next s)
      ∧ ∃ (c : Code) (k : Nat), exec (.rdt i) s = .next { s with reply := .code c, draws := k })
    ∧ (4 * s.build.maxBlocks ≤ i →
      (∀ v : Byte, exec (.wrb i v) s = .next s)
      ∧ ∃ (v : Byte) (k : Nat), exec (.rdb i) s = .next { s with reply := .byte v, draws := k })

/-- 70_reset_and_hazards.md R145, R146: from every state, also during a call, RESET puts every register at its reset value
and leaves the tables; buffers and datapath registers are unspecified, so nothing is said of them; no engine step is
enabled afterwards. -/
def Obligations.ResetFromEveryState : Prop :=
  ∀ s : State,
    ∃ t, exec .reset s = .next t
      ∧ t.cmd = 0 ∧ t.status = ⟨false, false, false, .none⟩ ∧ t.status.byte = 0x00#8 ∧ t.olen = 0 ∧ t.canary = 0 ∧ t.blk = 0
      ∧ t.nblk = 0 ∧ t.build = s.build
      ∧ t.decblkEnabled = false ∧ t.decfinEnabled = false ∧ t.encblkEnabled = false ∧ t.encfinEnabled = false

/-- The state after reset: the registers at the values of 10_state.md R25. The buffers' and datapath registers' contents
are the model's (log entries 4, 6), and the statement says nothing of them. That a step leaves the state as it is rests
on two choices of the model: nothing is placed at reset (log entry 13) and an empty inbox gives the engine the turn (log
entry 7). -/
def Obligations.ResetStateHoldsTheSpecValues : Prop :=
  State.reset.cmd = 0 ∧ State.reset.status.byte = 0x00#8 ∧ State.reset.olen = 0 ∧ State.reset.canary = 0
    ∧ State.reset.blk = 0 ∧ State.reset.nblk = 0 ∧ step State.reset = .next State.reset

/-! The exception -/

/-- 60_exceptions.md R129: trap entry writes BUSY 0, DONE 1, ERR 1, the cause's code and OLEN 0, nothing else is saved or
changed, and no engine step is enabled afterwards. -/
def Obligations.InvalidInputEntry : Prop :=
  ∀ (k : Cause) (s : State),
    raiseInvalidInput k s = { s with status := ⟨false, true, true, k⟩, olen := 0 }
    ∧ (raiseInvalidInput .length s).status.byte.toNat = 1 * 8 + 0b110
    ∧ (raiseInvalidInput .character s).status.byte.toNat = 2 * 8 + 0b110
    ∧ (raiseInvalidInput .capacity s).status.byte.toNat = 3 * 8 + 0b110
    ∧ (raiseInvalidInput k s).decblkEnabled = false ∧ (raiseInvalidInput k s).decfinEnabled = false
    ∧ (raiseInvalidInput k s).encblkEnabled = false ∧ (raiseInvalidInput k s).encfinEnabled = false

/-! The engine's steps -/

/-- 40_decode.md R78: the block step of decode, its result and its frame. -/
def Obligations.DecblkDecodesOneBlock : Prop :=
  ∀ s : State, s.status.busy = true → cmdDir s.cmd = false → s.blk < s.nblk →
    let c := fun j : Nat => s.readText (5 * s.blk + j)
    let d := fun j : Nat => (s.build.decLut (BitVec.ofNat 7 (c j))).toNat
    let sum := d 0 * 52200625 + d 1 * 614125 + d 2 * 7225 + d 3 * 85 + d 4
    let v := sum % 2 ^ 32
    ∃ t, exec .decblk s = .next t
      ∧ t = { s with bbuf := t.bbuf, canary := t.canary, blk := s.blk + 1, dp := t.dp }
      ∧ t.canary = (s.canary ||| c 0 ||| c 1 ||| c 2 ||| c 3 ||| c 4 ||| d 0 ||| d 1 ||| d 2 ||| d 3 ||| d 4)
      ∧ (t.readByte (4 * s.blk)).toNat = v / 2 ^ 24
      ∧ (t.readByte (4 * s.blk + 1)).toNat = v / 2 ^ 16 % 2 ^ 8
      ∧ (t.readByte (4 * s.blk + 2)).toNat = v / 2 ^ 8 % 2 ^ 8
      ∧ (t.readByte (4 * s.blk + 3)).toNat = v % 2 ^ 8
      ∧ (∀ a : Nat, a < 4 * s.blk ∨ 4 * s.blk + 4 ≤ a → t.readByte a = s.readByte a)
      ∧ (∀ a : Nat, t.readText a = s.readText a)
      ∧ t.dp.c = ⟨c 0, c 1, c 2, c 3, c 4⟩
      ∧ t.dp.d.map BitVec.toNat = ⟨d 0, d 1, d 2, d 3, d 4⟩
      ∧ t.dp.s = sum ∧ t.dp.v.toNat = v ∧ t.dp.rm = s.dp.rm
      ∧ t.dp.b = ⟨t.readByte (4 * s.blk), t.readByte (4 * s.blk + 1), t.readByte (4 * s.blk + 2), t.readByte (4 * s.blk + 3)⟩

/-- 40_decode.md R79: the final step of decode. On taint the output region is unspecified, so the statement says nothing
of it; every other unit and every other register stays. -/
def Obligations.DecfinChecksTheCanaryOnce : Prop :=
  ∀ s : State, s.status.busy = true → cmdDir s.cmd = false → s.blk = s.nblk →
    (s.canary / 2 ^ 7 = 0 →
      exec .decfin s = .next { s with olen := BitVec.ofNat 32 (4 * s.nblk), status := ⟨false, true, false, .none⟩ })
    ∧ (s.canary / 2 ^ 7 ≠ 0 →
      ∃ t, exec .decfin s = .next t
        ∧ t = { s with bbuf := t.bbuf, draws := t.draws, olen := 0, status := ⟨false, true, true, .character⟩ }
        ∧ (∀ a : Nat, 4 * s.nblk ≤ a → t.readByte a = s.readByte a)
        ∧ (∀ a : Nat, t.readText a = s.readText a))

/-- 41_encode.md R95: the block step of encode, its result and its frame. -/
def Obligations.EncblkEncodesOneBlock : Prop :=
  ∀ s : State, s.status.busy = true → cmdDir s.cmd = true → s.blk < s.nblk →
    let b := fun k : Nat => (s.readByte (4 * s.blk + k)).toNat
    let v := b 0 * 16777216 + b 1 * 65536 + b 2 * 256 + b 3
    let r1 := v % 52200625
    let r2 := r1 % 614125
    let r3 := r2 % 7225
    let d := fun j : Nat =>
      if j = 0 then v / 52200625 else if j = 1 then r1 / 614125 else if j = 2 then r2 / 7225
      else if j = 3 then r3 / 85 else r3 % 85
    let c := fun j : Nat => (s.build.encLut (d j)).toNat
    ∃ t, exec .encblk s = .next t
      ∧ t = { s with tbuf := t.tbuf, blk := s.blk + 1, dp := t.dp }
      ∧ (∀ j : Nat, j < 5 → t.readText (5 * s.blk + j) = c j)
      ∧ (∀ a : Nat, a < 5 * s.blk ∨ 5 * s.blk + 5 ≤ a → t.readText a = s.readText a)
      ∧ (∀ a : Nat, t.readByte a = s.readByte a)
      ∧ t.dp.b.b0.toNat = b 0 ∧ t.dp.b.b1.toNat = b 1 ∧ t.dp.b.b2.toNat = b 2 ∧ t.dp.b.b3.toNat = b 3
      ∧ t.dp.v.toNat = v ∧ t.dp.d.map BitVec.toNat = ⟨d 0, d 1, d 2, d 3, d 4⟩ ∧ t.dp.rm.toNat = r3 % 85
      ∧ t.dp.c = ⟨c 0, c 1, c 2, c 3, c 4⟩ ∧ t.dp.s = s.dp.s

/-- 41_encode.md R98: the final step of encode never fails. -/
def Obligations.EncfinEndsTheCall : Prop :=
  ∀ s : State, s.status.busy = true → cmdDir s.cmd = true → s.blk = s.nblk →
    exec .encfin s = .next { s with olen := BitVec.ofNat 32 (5 * s.nblk), status := ⟨false, true, false, .none⟩ }
    ∧ (s.Inv → s.canary = 0 ∧ (BitVec.ofNat 32 (5 * s.nblk)).toNat = 5 * s.nblk)

/-! The arithmetic of a block -/

/-- 30_encoding.md R51: a binary block is its value stored most significant byte first, and every value is legal. -/
def Obligations.BinaryBlockIsBigEndian : Prop :=
  (∀ (s : State) (b : Nat),
    s.rdBinBlock b = ⟨s.readByte (4 * b + 0), s.readByte (4 * b + 1), s.readByte (4 * b + 2), s.readByte (4 * b + 3)⟩)
  ∧ (∀ q : ByteQuad Byte,
    (wordOf q).toNat = q.b0.toNat * 16777216 + q.b1.toNat * 65536 + q.b2.toNat * 256 + q.b3.toNat
      ∧ bytesOf (wordOf q) = q)
  ∧ ∀ v : Word, wordOf (bytesOf v) = v
      ∧ (bytesOf v).b0 = v.extractLsb' 24 8 ∧ (bytesOf v).b1 = v.extractLsb' 16 8
      ∧ (bytesOf v).b2 = v.extractLsb' 8 8 ∧ (bytesOf v).b3 = v.extractLsb' 0 8

/-- The bounds of the block sum, and that valid groups have distinct sums (40_decode.md, section 2: the spec derives them
from the sum's formula). -/
def Obligations.BlockSumBoundsAndInjectivity : Prop :=
  (∀ d : CharGroup Byte, blockSum d ≤ 13469625555 ∧ blockSum d < 2 ^ 34)
  ∧ (∀ d : CharGroup Byte, d.e0.toNat ≤ 84 → d.e1.toNat ≤ 84 → d.e2.toNat ≤ 84 → d.e3.toNat ≤ 84 → d.e4.toNat ≤ 84 →
      blockSum d ≤ 85 ^ 5 - 1 ∧ blockSum d < 2 ^ 33 ∧ (blockSum d = 0 ↔ d = ⟨0, 0, 0, 0, 0⟩)
      ∧ ∀ d' : CharGroup Byte, d'.e0.toNat ≤ 84 → d'.e1.toNat ≤ 84 → d'.e2.toNat ≤ 84 → d'.e3.toNat ≤ 84 →
          d'.e4.toNat ≤ 84 → blockSum d = blockSum d' → d = d')

/-- The truncation of the block sum: a canonical group keeps its value, a non-canonical valid group loses 2^32, and the
largest value it can come to is 142085828 (40_decode.md, section 2; the wrap is the spec's decision D6, log entry 15). -/
def Obligations.NonCanonicalGroupsWrap : Prop :=
  ∀ d : CharGroup Byte, d.e0.toNat ≤ 84 → d.e1.toNat ≤ 84 → d.e2.toNat ≤ 84 → d.e3.toNat ≤ 84 → d.e4.toNat ≤ 84 →
    (blockSum d < 2 ^ 32 → (blockValue (blockSum d)).toNat = blockSum d)
    ∧ (2 ^ 32 ≤ blockSum d → (blockValue (blockSum d)).toNat = blockSum d - 2 ^ 32
        ∧ (blockValue (blockSum d)).toNat ≤ 0x08780EC4)

/-- The digits the divide chain gives: in range, the first at most 82, the same as the formulation by powers, and their
sum is the value again (41_encode.md, section 2: the spec derives it). -/
def Obligations.DivideChainGivesTheNumeral : Prop :=
  ∀ v : Word,
    let d := divideChain v.toNat
    d.e0 ≤ 82 ∧ d.e1 ≤ 84 ∧ d.e2 ≤ 84 ∧ d.e3 ≤ 84 ∧ d.e4 ≤ 84
    ∧ d.e0 = v.toNat / 85 ^ 4 % 85 ∧ d.e1 = v.toNat / 85 ^ 3 % 85 ∧ d.e2 = v.toNat / 85 ^ 2 % 85
    ∧ d.e3 = v.toNat / 85 ^ 1 % 85 ∧ d.e4 = v.toNat % 85
    ∧ blockSum (d.map (BitVec.ofNat 8)) = v.toNat
    ∧ blockValue (blockSum (d.map (BitVec.ofNat 8))) = v

/-- One block's OR-tree taints exactly when the canary was tainted or one of the five codes is an invalid character
(40_decode.md, sections 2 and 3: the single check equals per-character validation, which the spec derives). -/
def Obligations.TaintIsPerCharacterValidity : Prop :=
  ∀ (p : Params) (canary : Nat) (c : CharGroup Code), p.ok = true →
    (taint (accumulate canary c (c.map p.decLookup)) = true ↔
      taint canary = true ∨ invalidCode p c.e0 = true ∨ invalidCode p c.e1 = true ∨ invalidCode p c.e2 = true
        ∨ invalidCode p c.e3 = true ∨ invalidCode p c.e4 = true)

/-- Every unit ENCBLK writes is an alphabet character, so a valid one, of an admissible instance (41_encode.md, section 2;
20_memory.md, section 4). -/
def Obligations.EncblkWritesValidCharacters : Prop :=
  ∀ s : State, s.build.ok = true → s.status.busy = true → cmdDir s.cmd = true → s.blk < s.nblk →
    ∃ t, exec .encblk s = .next t ∧ ∀ j : Nat, j < 5 →
      (∃ k : Nat, k < 85 ∧ t.readText (5 * s.blk + j) = (s.build.encLut k).toNat)
      ∧ t.readText (5 * s.blk + j) < 128 ∧ invalidCode s.build (t.readText (5 * s.blk + j)) = false

/-! The whole machine -/

/-- Every instruction has a next state in every state: none faults, none is refused (93_implementation_defined.md, part 1);
for an engine step that is not enabled and for a SYM row that rests on the model's choices (log entries 8, 9). That step
is refused, and only on a bare character code that is no symbol of the table, is the model's choice (log entry 14). -/
def Obligations.EveryInstructionCompletes : Prop :=
  (∀ (i : Instr) (s : State), ∃ t, exec i s = .next t)
  ∧ ∀ s : State, (∃ t, step s = .next t) ∨
      ∃ (c : Byte) (rest : List Turn), s.inbox = .host (.sym c) :: rest ∧ (∀ i : Instr, (c, i) ∉ symRows)
        ∧ step s = .refused (.undecodable (.notASymbol c))

/-- Which operations write which element: no other instruction changes it (10_state.md, sections 1, 5, 7, 8). An unlisted
unit is read through bufDraw, so the buffers' clauses fix what a read of any unit gives and not the lists alone. The
clauses of inbox (log entry 7), symRead (log entry 9), reply (log entry 10), bufDraw and draws (log entries 4, 5) are of
the model's own fields. -/
def Obligations.OnlyItsWritersChangeAnElement : Prop :=
  ∀ (i : Instr) (s t : State), exec i s = .next t →
    t.build = s.build ∧ t.inbox = s.inbox
    ∧ (i.format ≠ .cmd → i ≠ .reset → i ≠ .decfin → i ≠ .encfin → t.status = s.status)
    ∧ (i.format ≠ .cmd → i ≠ .reset → t.cmd = s.cmd ∧ t.nblk = s.nblk)
    ∧ (i.format ≠ .cmd → i ≠ .reset → i ≠ .decfin → i ≠ .encfin → t.olen = s.olen)
    ∧ (i.format ≠ .cmd → i ≠ .reset → i ≠ .decblk → t.canary = s.canary)
    ∧ (i.format ≠ .cmd → i ≠ .reset → t.blk = s.blk ∨ ((i = .decblk ∨ i = .encblk) ∧ t.blk = s.blk + 1))
    ∧ (i ≠ .decblk → i ≠ .encblk → i ≠ .reset → t.dp = s.dp)
    ∧ ((∀ (k : Nat) (c : Code), i ≠ .wrt k c) → i ≠ .encblk → i ≠ .reset →
        t.tbuf = s.tbuf ∧ ∀ j : Nat, t.readText j = s.readText j)
    ∧ ((∀ (k : Nat) (v : Byte), i ≠ .wrb k v) → i ≠ .decblk → i ≠ .decfin → i ≠ .reset →
        t.bbuf = s.bbuf ∧ ∀ j : Nat, t.readByte j = s.readByte j)
    ∧ (i ≠ .reset → t.bufDraw = s.bufDraw)
    ∧ ((∀ k : Nat, i ≠ .rdt k) → (∀ k : Nat, i ≠ .rdb k) → i ≠ .decfin → i ≠ .reset → t.draws = s.draws)
    ∧ (i.format ≠ .port → t.reply = s.reply) ∧ (i.format ≠ .sym → t.symRead = s.symRead)

/-- No step reads a datapath register before it has written it: with any other values in them every instruction gives the
same next state but for the datapath registers themselves (10_state.md, section 6). -/
def Obligations.DatapathRegistersCarryNothing : Prop :=
  ∀ (i : Instr) (s : State) (x : Datapath),
    ∃ t u, exec i s = .next t ∧ exec i { s with dp := x } = .next u ∧ u = { t with dp := u.dp }

/-- No result depends on the low 7 bits of CANARY (10_state.md, section 4): two states that differ only there take every
engine turn to states that differ only there. -/
def Obligations.LowCanaryBitsDecideNothing : Prop :=
  ∀ (s : State) (x : Nat) (t : State), s.inbox = [] → x / 2 ^ 7 = s.canary / 2 ^ 7 → step s = .next t →
    ∃ u, step { s with canary := x } = .next u ∧ u = { t with canary := u.canary } ∧ u.canary / 2 ^ 7 = t.canary / 2 ^ 7

/-- While a call runs, no host item but RESET changes any state of B85C (20_memory.md, section 5; 42_host_interface.md,
section 2). -/
def Obligations.HostCannotDisturbARunningCall : Prop :=
  ∀ (s t : State) (h : HostItem) (rest : List Turn),
    s.status.busy = true → s.inbox = .host h :: rest → h ≠ .port .reset → step s = .next t →
      t = { s with inbox := rest, reply := t.reply, draws := t.draws, symRead := t.symRead }

/-- The state after reset meets the invariant. -/
def Obligations.ResetMeetsTheInvariant : Prop := State.reset.Inv

/-- Every step keeps the invariant: STATUS stays legal, BLK <= NBLK <= MAX_BLOCKS, the buffers keep their canonical form and
their bounds, every register its width, OLEN its meaning (10_state.md, sections 3 to 7). -/
def Obligations.StepKeepsTheInvariant : Prop := ∀ s t : State, s.Inv → step s = .next t → t.Inv

/-! Whole calls -/

/-- A running call takes its remaining block steps and one FIN step, BUSY = 1 until then, whatever the data
(70_reset_and_hazards.md, section 4). -/
def Obligations.RunningCallEndsAfterItsBlocks : Prop :=
  ∀ s : State, s.Inv → s.status.busy = true → s.inbox = [] →
    (∃ t, steps (s.nblk - s.blk + 1) s = .next t ∧ t.status.busy = false ∧ t.status.done = true)
    ∧ ∀ k : Nat, k ≤ s.nblk - s.blk → ∃ t, steps k s = .next t ∧ t.status.busy = true ∧ t.blk = s.blk + k

/-- The steps of a decode call compute DecodeCall (40_decode.md, section 4; the spec derives it from the step rules). That
the emptied inbox gives the engine every later turn is the model's choice (log entry 7). -/
def Obligations.DecodeStepsComputeDecodeCall : Prop :=
  ∀ (s : State) (n : BitVec 31), s.Inv → s.status.busy = false → s.inbox = [.host (.cmd (commandWord false n))] →
    let text := (List.range n.toNat).map s.readText
    (∀ out, decodeCall s.build text = .ok out →
      ∃ t, steps (n.toNat / 5 + 2) s = .next t ∧ t.status = Status.succeeded ∧ t.olen.toNat = out.length
        ∧ (∀ i : Nat, i < out.length → out[i]? = some (t.readByte i))
        ∧ (∀ i : Nat, t.readText i = s.readText i) ∧ t.cmd = commandWord false n
        ∧ ∀ i : Nat, 4 * (n.toNat / 5) ≤ i → t.readByte i = s.readByte i)
    ∧ ∀ k, decodeCall s.build text = .err k →
      ∃ t, steps (if k = .character then n.toNat / 5 + 2 else 1) s = .next t ∧ t.status = Status.failed k ∧ t.olen = 0
        ∧ (∀ i : Nat, t.readText i = s.readText i) ∧ t.cmd = commandWord false n
        ∧ ∀ i : Nat, 4 * (n.toNat / 5) ≤ i → t.readByte i = s.readByte i

/-- The steps of an encode call compute EncodeCall (41_encode.md, section 4; the spec derives it from the step rules). That
the emptied inbox gives the engine every later turn is the model's choice (log entry 7). -/
def Obligations.EncodeStepsComputeEncodeCall : Prop :=
  ∀ (s : State) (n : BitVec 31), s.Inv → s.status.busy = false → s.inbox = [.host (.cmd (commandWord true n))] →
    let bytes := (List.range n.toNat).map s.readByte
    (∀ out, encodeCall s.build bytes = .ok out →
      ∃ t, steps (n.toNat / 4 + 2) s = .next t ∧ t.status = Status.succeeded ∧ t.olen.toNat = out.length
        ∧ (∀ i : Nat, i < out.length → (out[i]?).map BitVec.toNat = some (t.readText i))
        ∧ (∀ i : Nat, t.readByte i = s.readByte i) ∧ t.cmd = commandWord true n
        ∧ ∀ i : Nat, 5 * (n.toNat / 4) ≤ i → t.readText i = s.readText i)
    ∧ ∀ k, encodeCall s.build bytes = .err k →
      ∃ t, steps 1 s = .next t ∧ t.status = Status.failed k ∧ t.olen = 0
        ∧ (∀ i : Nat, t.readByte i = s.readByte i ∧ t.readText i = s.readText i) ∧ t.cmd = commandWord true n

/-- The lengths of the outputs, and that a text decodes only if every character is valid (40_decode.md, section 4). -/
def Obligations.CallOutputLengths : Prop :=
  ∀ p : Params,
    (∀ (t : List Code) (out : List Byte), decodeCall p t = .ok out →
      out.length = t.length / 5 * 4 ∧ t.length % 5 = 0 ∧ ∀ c ∈ t, c < 128 ∧ p.decLut (BitVec.ofNat 7 c) ≠ 0xFF#8)
    ∧ ∀ x out : List Byte, encodeCall p x = .ok out → out.length = x.length / 4 * 5 ∧ x.length % 4 = 0

/-- decode(encode(b)) = b for every byte sequence the instance can hold (41_encode.md, section 4; the spec derives it). -/
def Obligations.DecodeOfEncodeIsTheInput : Prop :=
  ∀ (p : Params) (x : List Byte), p.ok = true → x.length % 4 = 0 → x.length ≤ 4 * p.maxBlocks →
    ∃ out, encodeCall p x = .ok out ∧ decodeCall p (out.map BitVec.toNat) = .ok x

/-- encode(decode(s)) = s exactly when every group of s is canonical (41_encode.md, section 4; the spec derives it). -/
def Obligations.EncodeOfDecodeIsTheInputIffCanonical : Prop :=
  ∀ (p : Params) (t : List Code) (x : List Byte), p.ok = true → decodeCall p t = .ok x →
    (encodeCall p x = .ok (t.map (BitVec.ofNat 8)) ↔ canonicalText p t = true)

/-- The round trip of the machine itself: ENC n and then, with no host write in between, DEC of its output leaves BBUF as
it was and ends with STATUS = 0x02 and OLEN = n (41_encode.md, section 4; the spec derives it). The order of turns, and
the emptied inbox that gives the engine the last ones, are the model's choice (log entry 7). -/
def Obligations.MachineRoundTrip : Prop :=
  ∀ (s : State) (n m : BitVec 31), s.Inv → s.status.busy = false → n.toNat % 4 = 0 → n.toNat ≤ 4 * s.build.maxBlocks →
    m.toNat = 5 * (n.toNat / 4) →
    s.inbox = .host (.cmd (commandWord true n)) ::
      (List.replicate (n.toNat / 4 + 1) .engine ++ [.host (.cmd (commandWord false m))]) →
    ∃ t, steps (2 * (n.toNat / 4 + 2)) s = .next t ∧ t.status.byte = 0x02#8 ∧ t.olen.toNat = n.toNat
      ∧ ∀ i : Nat, i < n.toNat → t.readByte i = s.readByte i

/-- A decode call from the host's side: LDT, DEC and WAIT from any idle state give what DecodeCall gives on the text, whatever
the machine held before (42_host_interface.md, section 3; the spec derives it). WAIT, as the engine turns it waits for
and one RDS, is the model's choice (log entry 7). A text above the capacity is left to DecodeStepsComputeDecodeCall. -/
def Obligations.DecodeProgramGivesDecodeCall : Prop :=
  ∀ (s : State) (text : List Code), s.Inv → s.status.busy = false → text.length ≤ 5 * s.build.maxBlocks →
    (∀ c ∈ text, c < 2 ^ s.build.charW) → s.inbox = decodeProgram text →
    ∃ t, steps (decodeProgram text).length s = .next t ∧ t.inbox = [] ∧ t.reply = .status t.status.byte
      ∧ (∀ out, decodeCall s.build text = .ok out →
          t.status.byte = 0x02#8 ∧ t.olen.toNat = out.length ∧ ∀ i : Nat, i < out.length → out[i]? = some (t.readByte i))
      ∧ ∀ k, decodeCall s.build text = .err k → t.status = Status.failed k ∧ t.olen = 0
          ∧ ∀ i : Nat, i < text.length → text[i]? = some (t.readText i)

/-- An encode call from the host's side: LDB, ENC and WAIT from any idle state give what EncodeCall gives on the bytes
(42_host_interface.md, section 3; the spec derives it). WAIT, as the engine turns it waits for and one RDS, is the model's
choice (log entry 7). An input above the capacity is left to EncodeStepsComputeEncodeCall. -/
def Obligations.EncodeProgramGivesEncodeCall : Prop :=
  ∀ (s : State) (bytes : List Byte), s.Inv → s.status.busy = false → bytes.length ≤ 4 * s.build.maxBlocks →
    s.inbox = encodeProgram bytes →
    ∃ t, steps (encodeProgram bytes).length s = .next t ∧ t.inbox = [] ∧ t.reply = .status t.status.byte
      ∧ (∀ out, encodeCall s.build bytes = .ok out →
          t.status.byte = 0x02#8 ∧ t.olen.toNat = out.length
            ∧ ∀ i : Nat, i < out.length → (out[i]?).map BitVec.toNat = some (t.readText i))
      ∧ ∀ k, encodeCall s.build bytes = .err k → t.status = Status.failed k ∧ t.olen = 0
end

