-- ==== Sys2Proof/Laws/Memory.lean ====
section
/-! SUPPORT. What the buffer operations do: a read after a write, everywhere else unchanged, and the canonical form
kept. -/

namespace Sys2Proof.Machine

theorem Memory.lookup_write_same {α : Type} (m : Memory α) (i : Nat) (v : α) :
    Memory.lookup (Memory.write m i v) i = some v := by
  induction m with
  | nil => simp [Memory.write, Memory.lookup]
  | cons e m ih =>
    obtain ⟨a, x⟩ := e
    simp only [Memory.write]
    split
    · simp [Memory.lookup]
    · split
      · simp [Memory.lookup]
      · have : a ≠ i := by omega
        simp [Memory.lookup, this, ih]

theorem Memory.lookup_write_other {α : Type} (m : Memory α) (i j : Nat) (v : α) (h : j ≠ i) :
    Memory.lookup (Memory.write m i v) j = Memory.lookup m j := by
  have h' : i ≠ j := fun e => h e.symm
  induction m with
  | nil => simp [Memory.write, Memory.lookup, h']
  | cons e m ih =>
    obtain ⟨a, x⟩ := e
    simp only [Memory.write]
    split
    · simp [Memory.lookup, h']
    · split
      · subst i; simp [Memory.lookup, h']
      · simp [Memory.lookup, ih]

/-- A read after a write, in one equation. -/
theorem Memory.lookup_write {α : Type} (m : Memory α) (i j : Nat) (v : α) :
    Memory.lookup (Memory.write m i v) j = if j = i then some v else Memory.lookup m j := by
  split
  · subst j; exact Memory.lookup_write_same m i v
  · exact Memory.lookup_write_other m i j v ‹_›

theorem Memory.lookup_writeBelow {α : Type} (m : Memory α) (f : Nat → α) (k j : Nat) :
    Memory.lookup (Memory.writeBelow m f k) j = if j < k then some (f j) else Memory.lookup m j := by
  induction k with
  | zero => simp [Memory.writeBelow]
  | succ k ih =>
    rw [Memory.writeBelow, Memory.lookup_write, ih]
    rcases Nat.lt_trichotomy j k with h | h | h
    · simp [h, Nat.lt_succ_of_lt h, Nat.ne_of_lt h]
    · simp [h]
    · simp [show ¬ j < k by omega, show ¬ j < k + 1 by omega, show j ≠ k by omega]

/-- The indices a write leaves listed. -/
theorem Memory.mem_write {α : Type} (m : Memory α) (i : Nat) (v : α) (e : Nat × α)
    (h : e ∈ Memory.write m i v) : e = (i, v) ∨ e ∈ m := by
  induction m with
  | nil => simpa [Memory.write] using h
  | cons a m ih =>
    obtain ⟨a, x⟩ := a
    simp only [Memory.write] at h
    split at h
    · simpa using h
    · split at h
      · rcases List.mem_cons.mp h with h | h
        · exact .inl h
        · exact .inr (List.mem_cons_of_mem _ h)
      · rcases List.mem_cons.mp h with h | h
        · exact .inr (h ▸ List.mem_cons_self)
        · exact (ih h).imp id (List.mem_cons_of_mem _)

/-- A write keeps the indices rising. -/
theorem Memory.write_rising {α : Type} (m : Memory α) (i : Nat) (v : α)
    (h : (m.map Prod.fst).Pairwise (· < ·)) : ((Memory.write m i v).map Prod.fst).Pairwise (· < ·) := by
  induction m with
  | nil => simp [Memory.write]
  | cons a m ih =>
    obtain ⟨a, x⟩ := a
    rw [List.map_cons, List.pairwise_cons] at h
    obtain ⟨hlt, htail⟩ := h
    simp only [Memory.write]
    split
    · rename_i hi
      simp only [List.map_cons, List.pairwise_cons, List.mem_cons]
      refine ⟨?_, hlt, htail⟩
      rintro b (rfl | hb)
      · exact hi
      · exact Nat.lt_trans hi (hlt b hb)
    · split
      · rename_i hi
        subst i
        simpa using ⟨fun b y hy => hlt b (List.mem_map_of_mem (f := Prod.fst) hy), htail⟩
      · rename_i h1 h2
        simp only [List.map_cons, List.pairwise_cons]
        refine ⟨?_, ih htail⟩
        intro b hb
        obtain ⟨e, he, rfl⟩ := List.mem_map.mp hb
        rcases Memory.mem_write m i v e he with rfl | he
        · show a < i; omega
        · exact hlt _ (List.mem_map_of_mem he)

/-- A write inside the buffer of a value that fits keeps the canonical form. -/
theorem Memory.write_wf {α : Type} {cap : Nat} {fits : α → Bool} (m : Memory α) (i : Nat) (v : α)
    (h : Memory.wf cap fits m = true) (hi : i < cap) (hv : fits v = true) :
    Memory.wf cap fits (Memory.write m i v) = true := by
  simp only [Memory.wf, Bool.and_eq_true, decide_eq_true_eq, List.all_eq_true] at h ⊢
  refine ⟨Memory.write_rising m i v h.1, fun e he => ?_⟩
  rcases Memory.mem_write m i v e he with rfl | he
  · exact ⟨hi, hv⟩
  · exact h.2 e he

/-- So does writing every unit below a bound inside the buffer. -/
theorem Memory.writeBelow_wf {α : Type} {cap : Nat} {fits : α → Bool} (m : Memory α) (f : Nat → α) (k : Nat)
    (h : Memory.wf cap fits m = true) (hk : k ≤ cap) (hf : ∀ i, fits (f i) = true) :
    Memory.wf cap fits (Memory.writeBelow m f k) = true := by
  induction k with
  | zero => exact h
  | succ k ih => exact Memory.write_wf _ k _ (ih (by omega)) (by omega) (hf k)

/-- The buffer of reset is canonical. -/
theorem Memory.nil_wf {α : Type} (cap : Nat) (fits : α → Bool) : Memory.wf cap fits [] = true := by
  simp [Memory.wf]

/-- A value a canonical buffer lists fits its unit. -/
theorem Memory.fits_of_lookup {α : Type} {cap : Nat} {fits : α → Bool} (m : Memory α) (i : Nat) (v : α)
    (h : Memory.wf cap fits m = true) (hl : Memory.lookup m i = some v) : fits v = true := by
  simp only [Memory.wf, Bool.and_eq_true, List.all_eq_true] at h
  obtain ⟨-, h⟩ := h
  induction m with
  | nil => simp [Memory.lookup] at hl
  | cons a m ih =>
    obtain ⟨a, x⟩ := a
    simp only [Memory.lookup] at hl
    split at hl
    · cases hl; exact (h _ List.mem_cons_self).2
    · exact ih hl fun e he => h e (List.mem_cons_of_mem _ he)

end Sys2Proof.Machine
end

