-- ==== Sys2Proof/Laws/State.lean ====
section
/-! SUPPORT. One lemma per field of State and named update, so that no proof unfolds an update. -/

namespace Sys2Proof.Machine

@[simp] theorem State.writeText_build (s : State) (i : Nat) (c : Code) : (State.writeText s i c).build = s.build := rfl
@[simp] theorem State.writeText_cmd (s : State) (i : Nat) (c : Code) : (State.writeText s i c).cmd = s.cmd := rfl
@[simp] theorem State.writeText_status (s : State) (i : Nat) (c : Code) : (State.writeText s i c).status = s.status := rfl
@[simp] theorem State.writeText_olen (s : State) (i : Nat) (c : Code) : (State.writeText s i c).olen = s.olen := rfl
@[simp] theorem State.writeText_canary (s : State) (i : Nat) (c : Code) : (State.writeText s i c).canary = s.canary := rfl
@[simp] theorem State.writeText_blk (s : State) (i : Nat) (c : Code) : (State.writeText s i c).blk = s.blk := rfl
@[simp] theorem State.writeText_nblk (s : State) (i : Nat) (c : Code) : (State.writeText s i c).nblk = s.nblk := rfl
@[simp] theorem State.writeText_dp (s : State) (i : Nat) (c : Code) : (State.writeText s i c).dp = s.dp := rfl
@[simp] theorem State.writeText_tbuf (s : State) (i : Nat) (c : Code) : (State.writeText s i c).tbuf = Memory.write s.tbuf i c := rfl
@[simp] theorem State.writeText_bbuf (s : State) (i : Nat) (c : Code) : (State.writeText s i c).bbuf = s.bbuf := rfl
@[simp] theorem State.writeText_bufDraw (s : State) (i : Nat) (c : Code) : (State.writeText s i c).bufDraw = s.bufDraw := rfl
@[simp] theorem State.writeText_draws (s : State) (i : Nat) (c : Code) : (State.writeText s i c).draws = s.draws := rfl
@[simp] theorem State.writeText_inbox (s : State) (i : Nat) (c : Code) : (State.writeText s i c).inbox = s.inbox := rfl
@[simp] theorem State.writeText_reply (s : State) (i : Nat) (c : Code) : (State.writeText s i c).reply = s.reply := rfl
@[simp] theorem State.writeText_symRead (s : State) (i : Nat) (c : Code) : (State.writeText s i c).symRead = s.symRead := rfl

@[simp] theorem State.writeByte_build (s : State) (i : Nat) (v : Byte) : (State.writeByte s i v).build = s.build := rfl
@[simp] theorem State.writeByte_cmd (s : State) (i : Nat) (v : Byte) : (State.writeByte s i v).cmd = s.cmd := rfl
@[simp] theorem State.writeByte_status (s : State) (i : Nat) (v : Byte) : (State.writeByte s i v).status = s.status := rfl
@[simp] theorem State.writeByte_olen (s : State) (i : Nat) (v : Byte) : (State.writeByte s i v).olen = s.olen := rfl
@[simp] theorem State.writeByte_canary (s : State) (i : Nat) (v : Byte) : (State.writeByte s i v).canary = s.canary := rfl
@[simp] theorem State.writeByte_blk (s : State) (i : Nat) (v : Byte) : (State.writeByte s i v).blk = s.blk := rfl
@[simp] theorem State.writeByte_nblk (s : State) (i : Nat) (v : Byte) : (State.writeByte s i v).nblk = s.nblk := rfl
@[simp] theorem State.writeByte_dp (s : State) (i : Nat) (v : Byte) : (State.writeByte s i v).dp = s.dp := rfl
@[simp] theorem State.writeByte_tbuf (s : State) (i : Nat) (v : Byte) : (State.writeByte s i v).tbuf = s.tbuf := rfl
@[simp] theorem State.writeByte_bbuf (s : State) (i : Nat) (v : Byte) : (State.writeByte s i v).bbuf = Memory.write s.bbuf i v := rfl
@[simp] theorem State.writeByte_bufDraw (s : State) (i : Nat) (v : Byte) : (State.writeByte s i v).bufDraw = s.bufDraw := rfl
@[simp] theorem State.writeByte_draws (s : State) (i : Nat) (v : Byte) : (State.writeByte s i v).draws = s.draws := rfl
@[simp] theorem State.writeByte_inbox (s : State) (i : Nat) (v : Byte) : (State.writeByte s i v).inbox = s.inbox := rfl
@[simp] theorem State.writeByte_reply (s : State) (i : Nat) (v : Byte) : (State.writeByte s i v).reply = s.reply := rfl
@[simp] theorem State.writeByte_symRead (s : State) (i : Nat) (v : Byte) : (State.writeByte s i v).symRead = s.symRead := rfl

@[simp] theorem State.withReply_build (s : State) (r : Reply) : (State.withReply s r).build = s.build := rfl
@[simp] theorem State.withReply_cmd (s : State) (r : Reply) : (State.withReply s r).cmd = s.cmd := rfl
@[simp] theorem State.withReply_status (s : State) (r : Reply) : (State.withReply s r).status = s.status := rfl
@[simp] theorem State.withReply_olen (s : State) (r : Reply) : (State.withReply s r).olen = s.olen := rfl
@[simp] theorem State.withReply_canary (s : State) (r : Reply) : (State.withReply s r).canary = s.canary := rfl
@[simp] theorem State.withReply_blk (s : State) (r : Reply) : (State.withReply s r).blk = s.blk := rfl
@[simp] theorem State.withReply_nblk (s : State) (r : Reply) : (State.withReply s r).nblk = s.nblk := rfl
@[simp] theorem State.withReply_dp (s : State) (r : Reply) : (State.withReply s r).dp = s.dp := rfl
@[simp] theorem State.withReply_tbuf (s : State) (r : Reply) : (State.withReply s r).tbuf = s.tbuf := rfl
@[simp] theorem State.withReply_bbuf (s : State) (r : Reply) : (State.withReply s r).bbuf = s.bbuf := rfl
@[simp] theorem State.withReply_bufDraw (s : State) (r : Reply) : (State.withReply s r).bufDraw = s.bufDraw := rfl
@[simp] theorem State.withReply_draws (s : State) (r : Reply) : (State.withReply s r).draws = s.draws := rfl
@[simp] theorem State.withReply_inbox (s : State) (r : Reply) : (State.withReply s r).inbox = s.inbox := rfl
@[simp] theorem State.withReply_reply (s : State) (r : Reply) : (State.withReply s r).reply = r := rfl
@[simp] theorem State.withReply_symRead (s : State) (r : Reply) : (State.withReply s r).symRead = s.symRead := rfl

@[simp] theorem State.withSymRead_build (s : State) (e d : Byte) : (State.withSymRead s e d).build = s.build := rfl
@[simp] theorem State.withSymRead_cmd (s : State) (e d : Byte) : (State.withSymRead s e d).cmd = s.cmd := rfl
@[simp] theorem State.withSymRead_status (s : State) (e d : Byte) : (State.withSymRead s e d).status = s.status := rfl
@[simp] theorem State.withSymRead_olen (s : State) (e d : Byte) : (State.withSymRead s e d).olen = s.olen := rfl
@[simp] theorem State.withSymRead_canary (s : State) (e d : Byte) : (State.withSymRead s e d).canary = s.canary := rfl
@[simp] theorem State.withSymRead_blk (s : State) (e d : Byte) : (State.withSymRead s e d).blk = s.blk := rfl
@[simp] theorem State.withSymRead_nblk (s : State) (e d : Byte) : (State.withSymRead s e d).nblk = s.nblk := rfl
@[simp] theorem State.withSymRead_dp (s : State) (e d : Byte) : (State.withSymRead s e d).dp = s.dp := rfl
@[simp] theorem State.withSymRead_tbuf (s : State) (e d : Byte) : (State.withSymRead s e d).tbuf = s.tbuf := rfl
@[simp] theorem State.withSymRead_bbuf (s : State) (e d : Byte) : (State.withSymRead s e d).bbuf = s.bbuf := rfl
@[simp] theorem State.withSymRead_bufDraw (s : State) (e d : Byte) : (State.withSymRead s e d).bufDraw = s.bufDraw := rfl
@[simp] theorem State.withSymRead_draws (s : State) (e d : Byte) : (State.withSymRead s e d).draws = s.draws := rfl
@[simp] theorem State.withSymRead_inbox (s : State) (e d : Byte) : (State.withSymRead s e d).inbox = s.inbox := rfl
@[simp] theorem State.withSymRead_reply (s : State) (e d : Byte) : (State.withSymRead s e d).reply = s.reply := rfl
@[simp] theorem State.withSymRead_symRead (s : State) (e d : Byte) : (State.withSymRead s e d).symRead = (e, d) := rfl

@[simp] theorem State.drawn_build (s : State) : (State.drawn s).build = s.build := rfl
@[simp] theorem State.drawn_cmd (s : State) : (State.drawn s).cmd = s.cmd := rfl
@[simp] theorem State.drawn_status (s : State) : (State.drawn s).status = s.status := rfl
@[simp] theorem State.drawn_olen (s : State) : (State.drawn s).olen = s.olen := rfl
@[simp] theorem State.drawn_canary (s : State) : (State.drawn s).canary = s.canary := rfl
@[simp] theorem State.drawn_blk (s : State) : (State.drawn s).blk = s.blk := rfl
@[simp] theorem State.drawn_nblk (s : State) : (State.drawn s).nblk = s.nblk := rfl
@[simp] theorem State.drawn_dp (s : State) : (State.drawn s).dp = s.dp := rfl
@[simp] theorem State.drawn_tbuf (s : State) : (State.drawn s).tbuf = s.tbuf := rfl
@[simp] theorem State.drawn_bbuf (s : State) : (State.drawn s).bbuf = s.bbuf := rfl
@[simp] theorem State.drawn_bufDraw (s : State) : (State.drawn s).bufDraw = s.bufDraw := rfl
@[simp] theorem State.drawn_draws (s : State) : (State.drawn s).draws = s.draws + 1 := rfl
@[simp] theorem State.drawn_inbox (s : State) : (State.drawn s).inbox = s.inbox := rfl
@[simp] theorem State.drawn_reply (s : State) : (State.drawn s).reply = s.reply := rfl
@[simp] theorem State.drawn_symRead (s : State) : (State.drawn s).symRead = s.symRead := rfl

@[simp] theorem State.scrambleBytes_build (s : State) (k : Nat) : (State.scrambleBytes s k).build = s.build := rfl
@[simp] theorem State.scrambleBytes_cmd (s : State) (k : Nat) : (State.scrambleBytes s k).cmd = s.cmd := rfl
@[simp] theorem State.scrambleBytes_status (s : State) (k : Nat) : (State.scrambleBytes s k).status = s.status := rfl
@[simp] theorem State.scrambleBytes_olen (s : State) (k : Nat) : (State.scrambleBytes s k).olen = s.olen := rfl
@[simp] theorem State.scrambleBytes_canary (s : State) (k : Nat) : (State.scrambleBytes s k).canary = s.canary := rfl
@[simp] theorem State.scrambleBytes_blk (s : State) (k : Nat) : (State.scrambleBytes s k).blk = s.blk := rfl
@[simp] theorem State.scrambleBytes_nblk (s : State) (k : Nat) : (State.scrambleBytes s k).nblk = s.nblk := rfl
@[simp] theorem State.scrambleBytes_dp (s : State) (k : Nat) : (State.scrambleBytes s k).dp = s.dp := rfl
@[simp] theorem State.scrambleBytes_tbuf (s : State) (k : Nat) : (State.scrambleBytes s k).tbuf = s.tbuf := rfl
@[simp] theorem State.scrambleBytes_bbuf (s : State) (k : Nat) : (State.scrambleBytes s k).bbuf = Memory.writeBelow s.bbuf (Config.freeByte s.draws) k := rfl
@[simp] theorem State.scrambleBytes_bufDraw (s : State) (k : Nat) : (State.scrambleBytes s k).bufDraw = s.bufDraw := rfl
@[simp] theorem State.scrambleBytes_draws (s : State) (k : Nat) : (State.scrambleBytes s k).draws = s.draws + 1 := rfl
@[simp] theorem State.scrambleBytes_inbox (s : State) (k : Nat) : (State.scrambleBytes s k).inbox = s.inbox := rfl
@[simp] theorem State.scrambleBytes_reply (s : State) (k : Nat) : (State.scrambleBytes s k).reply = s.reply := rfl
@[simp] theorem State.scrambleBytes_symRead (s : State) (k : Nat) : (State.scrambleBytes s k).symRead = s.symRead := rfl

@[simp] theorem State.wrTextBlock_build (s : State) (b : Nat) (g : CharGroup Code) : (State.wrTextBlock s b g).build = s.build := rfl
@[simp] theorem State.wrTextBlock_cmd (s : State) (b : Nat) (g : CharGroup Code) : (State.wrTextBlock s b g).cmd = s.cmd := rfl
@[simp] theorem State.wrTextBlock_status (s : State) (b : Nat) (g : CharGroup Code) : (State.wrTextBlock s b g).status = s.status := rfl
@[simp] theorem State.wrTextBlock_olen (s : State) (b : Nat) (g : CharGroup Code) : (State.wrTextBlock s b g).olen = s.olen := rfl
@[simp] theorem State.wrTextBlock_canary (s : State) (b : Nat) (g : CharGroup Code) : (State.wrTextBlock s b g).canary = s.canary := rfl
@[simp] theorem State.wrTextBlock_blk (s : State) (b : Nat) (g : CharGroup Code) : (State.wrTextBlock s b g).blk = s.blk := rfl
@[simp] theorem State.wrTextBlock_nblk (s : State) (b : Nat) (g : CharGroup Code) : (State.wrTextBlock s b g).nblk = s.nblk := rfl
@[simp] theorem State.wrTextBlock_dp (s : State) (b : Nat) (g : CharGroup Code) : (State.wrTextBlock s b g).dp = s.dp := rfl
@[simp] theorem State.wrTextBlock_tbuf (s : State) (b : Nat) (g : CharGroup Code) : (State.wrTextBlock s b g).tbuf = Memory.writeGroup s.tbuf (5 * b) g := rfl
@[simp] theorem State.wrTextBlock_bbuf (s : State) (b : Nat) (g : CharGroup Code) : (State.wrTextBlock s b g).bbuf = s.bbuf := rfl
@[simp] theorem State.wrTextBlock_bufDraw (s : State) (b : Nat) (g : CharGroup Code) : (State.wrTextBlock s b g).bufDraw = s.bufDraw := rfl
@[simp] theorem State.wrTextBlock_draws (s : State) (b : Nat) (g : CharGroup Code) : (State.wrTextBlock s b g).draws = s.draws := rfl
@[simp] theorem State.wrTextBlock_inbox (s : State) (b : Nat) (g : CharGroup Code) : (State.wrTextBlock s b g).inbox = s.inbox := rfl
@[simp] theorem State.wrTextBlock_reply (s : State) (b : Nat) (g : CharGroup Code) : (State.wrTextBlock s b g).reply = s.reply := rfl
@[simp] theorem State.wrTextBlock_symRead (s : State) (b : Nat) (g : CharGroup Code) : (State.wrTextBlock s b g).symRead = s.symRead := rfl

@[simp] theorem State.wrBinBlock_build (s : State) (b : Nat) (v : Word) : (State.wrBinBlock s b v).build = s.build := rfl
@[simp] theorem State.wrBinBlock_cmd (s : State) (b : Nat) (v : Word) : (State.wrBinBlock s b v).cmd = s.cmd := rfl
@[simp] theorem State.wrBinBlock_status (s : State) (b : Nat) (v : Word) : (State.wrBinBlock s b v).status = s.status := rfl
@[simp] theorem State.wrBinBlock_olen (s : State) (b : Nat) (v : Word) : (State.wrBinBlock s b v).olen = s.olen := rfl
@[simp] theorem State.wrBinBlock_canary (s : State) (b : Nat) (v : Word) : (State.wrBinBlock s b v).canary = s.canary := rfl
@[simp] theorem State.wrBinBlock_blk (s : State) (b : Nat) (v : Word) : (State.wrBinBlock s b v).blk = s.blk := rfl
@[simp] theorem State.wrBinBlock_nblk (s : State) (b : Nat) (v : Word) : (State.wrBinBlock s b v).nblk = s.nblk := rfl
@[simp] theorem State.wrBinBlock_dp (s : State) (b : Nat) (v : Word) : (State.wrBinBlock s b v).dp = s.dp := rfl
@[simp] theorem State.wrBinBlock_tbuf (s : State) (b : Nat) (v : Word) : (State.wrBinBlock s b v).tbuf = s.tbuf := rfl
@[simp] theorem State.wrBinBlock_bbuf (s : State) (b : Nat) (v : Word) : (State.wrBinBlock s b v).bbuf = Memory.writeQuad s.bbuf (4 * b) (bytesOf v) := rfl
@[simp] theorem State.wrBinBlock_bufDraw (s : State) (b : Nat) (v : Word) : (State.wrBinBlock s b v).bufDraw = s.bufDraw := rfl
@[simp] theorem State.wrBinBlock_draws (s : State) (b : Nat) (v : Word) : (State.wrBinBlock s b v).draws = s.draws := rfl
@[simp] theorem State.wrBinBlock_inbox (s : State) (b : Nat) (v : Word) : (State.wrBinBlock s b v).inbox = s.inbox := rfl
@[simp] theorem State.wrBinBlock_reply (s : State) (b : Nat) (v : Word) : (State.wrBinBlock s b v).reply = s.reply := rfl
@[simp] theorem State.wrBinBlock_symRead (s : State) (b : Nat) (v : Word) : (State.wrBinBlock s b v).symRead = s.symRead := rfl

@[simp] theorem raiseInvalidInput_build (s : State) (k : Cause) : (raiseInvalidInput k s).build = s.build := rfl
@[simp] theorem raiseInvalidInput_cmd (s : State) (k : Cause) : (raiseInvalidInput k s).cmd = s.cmd := rfl
@[simp] theorem raiseInvalidInput_status (s : State) (k : Cause) : (raiseInvalidInput k s).status = Status.failed k := rfl
@[simp] theorem raiseInvalidInput_olen (s : State) (k : Cause) : (raiseInvalidInput k s).olen = 0 := rfl
@[simp] theorem raiseInvalidInput_canary (s : State) (k : Cause) : (raiseInvalidInput k s).canary = s.canary := rfl
@[simp] theorem raiseInvalidInput_blk (s : State) (k : Cause) : (raiseInvalidInput k s).blk = s.blk := rfl
@[simp] theorem raiseInvalidInput_nblk (s : State) (k : Cause) : (raiseInvalidInput k s).nblk = s.nblk := rfl
@[simp] theorem raiseInvalidInput_dp (s : State) (k : Cause) : (raiseInvalidInput k s).dp = s.dp := rfl
@[simp] theorem raiseInvalidInput_tbuf (s : State) (k : Cause) : (raiseInvalidInput k s).tbuf = s.tbuf := rfl
@[simp] theorem raiseInvalidInput_bbuf (s : State) (k : Cause) : (raiseInvalidInput k s).bbuf = s.bbuf := rfl
@[simp] theorem raiseInvalidInput_bufDraw (s : State) (k : Cause) : (raiseInvalidInput k s).bufDraw = s.bufDraw := rfl
@[simp] theorem raiseInvalidInput_draws (s : State) (k : Cause) : (raiseInvalidInput k s).draws = s.draws := rfl
@[simp] theorem raiseInvalidInput_inbox (s : State) (k : Cause) : (raiseInvalidInput k s).inbox = s.inbox := rfl
@[simp] theorem raiseInvalidInput_reply (s : State) (k : Cause) : (raiseInvalidInput k s).reply = s.reply := rfl
@[simp] theorem raiseInvalidInput_symRead (s : State) (k : Cause) : (raiseInvalidInput k s).symRead = s.symRead := rfl

@[simp] theorem succeed_build (s : State) (len : Nat) : (succeed len s).build = s.build := rfl
@[simp] theorem succeed_cmd (s : State) (len : Nat) : (succeed len s).cmd = s.cmd := rfl
@[simp] theorem succeed_status (s : State) (len : Nat) : (succeed len s).status = Status.succeeded := rfl
@[simp] theorem succeed_olen (s : State) (len : Nat) : (succeed len s).olen = BitVec.ofNat 32 len := rfl
@[simp] theorem succeed_canary (s : State) (len : Nat) : (succeed len s).canary = s.canary := rfl
@[simp] theorem succeed_blk (s : State) (len : Nat) : (succeed len s).blk = s.blk := rfl
@[simp] theorem succeed_nblk (s : State) (len : Nat) : (succeed len s).nblk = s.nblk := rfl
@[simp] theorem succeed_dp (s : State) (len : Nat) : (succeed len s).dp = s.dp := rfl
@[simp] theorem succeed_tbuf (s : State) (len : Nat) : (succeed len s).tbuf = s.tbuf := rfl
@[simp] theorem succeed_bbuf (s : State) (len : Nat) : (succeed len s).bbuf = s.bbuf := rfl
@[simp] theorem succeed_bufDraw (s : State) (len : Nat) : (succeed len s).bufDraw = s.bufDraw := rfl
@[simp] theorem succeed_draws (s : State) (len : Nat) : (succeed len s).draws = s.draws := rfl
@[simp] theorem succeed_inbox (s : State) (len : Nat) : (succeed len s).inbox = s.inbox := rfl
@[simp] theorem succeed_reply (s : State) (len : Nat) : (succeed len s).reply = s.reply := rfl
@[simp] theorem succeed_symRead (s : State) (len : Nat) : (succeed len s).symRead = s.symRead := rfl

@[simp] theorem resetState_build (s : State) : (resetState s).build = s.build := rfl
@[simp] theorem resetState_cmd (s : State) : (resetState s).cmd = 0 := rfl
@[simp] theorem resetState_status (s : State) : (resetState s).status = Status.idle := rfl
@[simp] theorem resetState_olen (s : State) : (resetState s).olen = 0 := rfl
@[simp] theorem resetState_canary (s : State) : (resetState s).canary = 0 := rfl
@[simp] theorem resetState_blk (s : State) : (resetState s).blk = 0 := rfl
@[simp] theorem resetState_nblk (s : State) : (resetState s).nblk = 0 := rfl
@[simp] theorem resetState_dp (s : State) : (resetState s).dp = Datapath.any s.build (s.draws + 1) := rfl
@[simp] theorem resetState_tbuf (s : State) : (resetState s).tbuf = [] := rfl
@[simp] theorem resetState_bbuf (s : State) : (resetState s).bbuf = [] := rfl
@[simp] theorem resetState_bufDraw (s : State) : (resetState s).bufDraw = s.draws := rfl
@[simp] theorem resetState_draws (s : State) : (resetState s).draws = s.draws + 2 := rfl
@[simp] theorem resetState_inbox (s : State) : (resetState s).inbox = s.inbox := rfl
@[simp] theorem resetState_reply (s : State) : (resetState s).reply = s.reply := rfl
@[simp] theorem resetState_symRead (s : State) : (resetState s).symRead = s.symRead := rfl

end Sys2Proof.Machine
end

