-- ==== Sys2Proof/Laws/Buffers.lean ====
section
/-! SUPPORT. What a read gives after each buffer operation, and that each keeps the canonical form. -/

namespace Sys2Proof.Machine

/-- Reading TBUF depends on three fields only. -/
theorem State.readText_congr {s t : State} (h1 : t.tbuf = s.tbuf) (h2 : t.bufDraw = s.bufDraw)
    (h3 : t.build = s.build) (i : Nat) : t.readText i = s.readText i := by
  simp only [State.readText, h1, h2, h3]

/-- Reading BBUF depends on two fields only. -/
theorem State.readByte_congr {s t : State} (h1 : t.bbuf = s.bbuf) (h2 : t.bufDraw = s.bufDraw) (i : Nat) :
    t.readByte i = s.readByte i := by
  simp only [State.readByte, h1, h2]

theorem State.readText_writeText (s : State) (i j : Nat) (c : Code) :
    (s.writeText i c).readText j = if j = i then c else s.readText j := by
  simp only [State.readText, State.writeText_tbuf, State.writeText_bufDraw, State.writeText_build, Memory.lookup_write]
  by_cases h : j = i <;> simp [h]

theorem State.readByte_writeByte (s : State) (i j : Nat) (v : Byte) :
    (s.writeByte i v).readByte j = if j = i then v else s.readByte j := by
  simp only [State.readByte, State.writeByte_bbuf, State.writeByte_bufDraw, Memory.lookup_write]
  by_cases h : j = i <;> simp [h]

@[simp] theorem State.readByte_writeText (s : State) (i j : Nat) (c : Code) :
    (s.writeText i c).readByte j = s.readByte j := rfl

@[simp] theorem State.readText_writeByte (s : State) (i j : Nat) (v : Byte) :
    (s.writeByte i v).readText j = s.readText j := rfl

/-- A scrambled unit holds the byte of the draw, and every other unit what it held. -/
theorem State.readByte_scrambleBytes (s : State) (k j : Nat) :
    (s.scrambleBytes k).readByte j = if j < k then Config.freeByte s.draws j else s.readByte j := by
  simp only [State.readByte, State.scrambleBytes_bbuf, State.scrambleBytes_bufDraw, Memory.lookup_writeBelow]
  by_cases h : j < k <;> simp [h]

theorem Memory.lookup_writeGroup (m : Memory Code) (i j : Nat) (g : CharGroup Code) :
    Memory.lookup (Memory.writeGroup m i g) j =
      if j = i then some g.e0 else if j = i + 1 then some g.e1 else if j = i + 2 then some g.e2
      else if j = i + 3 then some g.e3 else if j = i + 4 then some g.e4 else Memory.lookup m j := by
  simp only [Memory.writeGroup, Memory.lookup_write]
  split_ifs <;> first | rfl | omega

theorem Memory.lookup_writeQuad (m : Memory Byte) (i j : Nat) (q : ByteQuad Byte) :
    Memory.lookup (Memory.writeQuad m i q) j =
      if j = i then some q.b0 else if j = i + 1 then some q.b1 else if j = i + 2 then some q.b2
      else if j = i + 3 then some q.b3 else Memory.lookup m j := by
  simp only [Memory.writeQuad, Memory.lookup_write]
  split_ifs <;> first | rfl | omega

/-- A text block written: its five units, and every other unit as before. -/
theorem State.readText_wrTextBlock (s : State) (b j : Nat) (g : CharGroup Code) :
    (s.wrTextBlock b g).readText j =
      if j = 5 * b then g.e0 else if j = 5 * b + 1 then g.e1 else if j = 5 * b + 2 then g.e2
      else if j = 5 * b + 3 then g.e3 else if j = 5 * b + 4 then g.e4 else s.readText j := by
  simp only [State.readText, State.wrTextBlock_tbuf, State.wrTextBlock_bufDraw, State.wrTextBlock_build,
    Memory.lookup_writeGroup]
  split_ifs <;> rfl

/-- A binary block written: its four units, and every other unit as before. -/
theorem State.readByte_wrBinBlock (s : State) (b j : Nat) (v : Word) :
    (s.wrBinBlock b v).readByte j =
      if j = 4 * b then v.extractLsb' 24 8 else if j = 4 * b + 1 then v.extractLsb' 16 8
      else if j = 4 * b + 2 then v.extractLsb' 8 8 else if j = 4 * b + 3 then v.extractLsb' 0 8 else s.readByte j := by
  simp only [State.readByte, State.wrBinBlock_bbuf, State.wrBinBlock_bufDraw, Memory.lookup_writeQuad, bytesOf]
  split_ifs <;> rfl

@[simp] theorem State.readByte_wrTextBlock (s : State) (b j : Nat) (g : CharGroup Code) :
    (s.wrTextBlock b g).readByte j = s.readByte j := rfl

@[simp] theorem State.readText_wrBinBlock (s : State) (b j : Nat) (v : Word) :
    (s.wrBinBlock b v).readText j = s.readText j := rfl

/-- A text block inside the buffer, of codes that fit, keeps the canonical form. -/
theorem Memory.writeGroup_wf (m : Memory Code) (i : Nat) (g : CharGroup Code) {cap : Nat} {fits : Code → Bool}
    (h : Memory.wf cap fits m = true) (hi : i + 4 < cap)
    (hg : fits g.e0 = true ∧ fits g.e1 = true ∧ fits g.e2 = true ∧ fits g.e3 = true ∧ fits g.e4 = true) :
    Memory.wf cap fits (Memory.writeGroup m i g) = true := by
  obtain ⟨h0, h1, h2, h3, h4⟩ := hg
  have w0 := Memory.write_wf m i g.e0 h (by omega) h0
  have w1 := Memory.write_wf _ (i + 1) g.e1 w0 (by omega) h1
  have w2 := Memory.write_wf _ (i + 2) g.e2 w1 (by omega) h2
  have w3 := Memory.write_wf _ (i + 3) g.e3 w2 (by omega) h3
  exact Memory.write_wf _ (i + 4) g.e4 w3 (by omega) h4

/-- A binary block inside the buffer keeps the canonical form. -/
theorem Memory.writeQuad_wf (m : Memory Byte) (i : Nat) (q : ByteQuad Byte) {cap : Nat}
    (h : Memory.wf cap (fun _ => true) m = true) (hi : i + 3 < cap) :
    Memory.wf cap (fun _ => true) (Memory.writeQuad m i q) = true := by
  have w0 := Memory.write_wf m i q.b0 h (by omega) rfl
  have w1 := Memory.write_wf _ (i + 1) q.b1 w0 (by omega) rfl
  have w2 := Memory.write_wf _ (i + 2) q.b2 w1 (by omega) rfl
  exact Memory.write_wf _ (i + 3) q.b3 w2 (by omega) rfl

/-- A code read from a canonical buffer has CHAR_W bits, drawn or written. -/
theorem State.readText_lt (s : State) (i : Nat)
    (h : Memory.wf s.build.textCap (fun c => decide (c < 2 ^ s.build.charW)) s.tbuf = true) :
    s.readText i < 2 ^ s.build.charW := by
  rw [State.readText]
  split
  · rename_i c hc
    simpa using Memory.fits_of_lookup s.tbuf i c h hc
  · exact Nat.mod_lt _ (by positivity)

end Sys2Proof.Machine
end

