-- ==== Sys2Proof/Laws/Exec.lean ====
section
/-! SUPPORT. What each shared operation and one step can do, said once, for later proofs to cite. -/

namespace Sys2Proof.Machine

/-- A command word as a number: DIR is the bit of weight 2^31, ILEN the rest. -/
theorem commandWord_toNat (dir : Bool) (n : BitVec 31) :
    (commandWord dir n).toNat = (if dir then 2 ^ 31 else 0) + n.toNat := by
  have h : (commandWord dir n).toNat = (BitVec.ofBool dir).toNat <<< 31 ||| n.toNat :=
    BitVec.toNat_append (BitVec.ofBool dir) n
  rw [h, ← Nat.shiftLeft_add_eq_or_of_lt n.isLt, Nat.shiftLeft_eq]
  cases dir <;> simp

/-- The big-endian value of four bytes as a number (30_encoding.md R51). -/
theorem wordOf_toNat (q : ByteQuad Byte) :
    (wordOf q).toNat = q.b0.toNat * 2 ^ 24 + q.b1.toNat * 2 ^ 16 + q.b2.toNat * 2 ^ 8 + q.b3.toNat := by
  have h1 : (q.b0 ++ q.b1).toNat = q.b0.toNat * 2 ^ 8 + q.b1.toNat := by
    rw [BitVec.toNat_append, ← Nat.shiftLeft_add_eq_or_of_lt q.b1.isLt, Nat.shiftLeft_eq]
  have h2 : (q.b0 ++ q.b1 ++ q.b2).toNat = (q.b0.toNat * 2 ^ 8 + q.b1.toNat) * 2 ^ 8 + q.b2.toNat := by
    rw [BitVec.toNat_append, ← Nat.shiftLeft_add_eq_or_of_lt q.b2.isLt, Nat.shiftLeft_eq, h1]
  have h3 : (wordOf q).toNat = (q.b0 ++ q.b1 ++ q.b2).toNat <<< 8 ||| q.b3.toNat := BitVec.toNat_append _ q.b3
  rw [h3, ← Nat.shiftLeft_add_eq_or_of_lt q.b3.isLt, Nat.shiftLeft_eq, h2]
  omega

/-- The fields of a command word are what it was built from. -/
@[simp] theorem cmdDir_commandWord (dir : Bool) (n : BitVec 31) : cmdDir (commandWord dir n) = dir := by
  have h := n.isLt
  rw [cmdDir, BitVec.getLsbD, commandWord_toNat, Nat.testBit_eq_decide_div_mod_eq]
  cases dir <;> simp <;> omega

@[simp] theorem commandWord_length (dir : Bool) (n : BitVec 31) : (commandWord dir n).extractLsb' 0 31 = n := by
  have h := n.isLt
  apply BitVec.eq_of_toNat_eq
  rw [BitVec.extractLsb'_toNat, commandWord_toNat]
  cases dir <;> simp <;> omega

@[simp] theorem cmdLen_commandWord (dir : Bool) (n : BitVec 31) : cmdLen (commandWord dir n) = n.toNat := by
  simp [cmdLen]

/-- START: ignored, failed on the length, failed on the capacity, or begun. -/
theorem start_cases (w : Word) (s : State) :
    (s.status.busy = true ∧ start w s = s) ∨
    (s.status.busy = false ∧
      ((cmdLen w % unitOf (cmdDir w) ≠ 0 ∧
          start w s = { s with cmd := w, olen := 0, canary := 0, blk := 0, nblk := 0, status := Status.failed .length }) ∨
        (cmdLen w % unitOf (cmdDir w) = 0 ∧ s.build.maxBlocks < cmdLen w / unitOf (cmdDir w) ∧
          start w s = { s with cmd := w, olen := 0, canary := 0, blk := 0, nblk := 0, status := Status.failed .capacity }) ∨
        (cmdLen w % unitOf (cmdDir w) = 0 ∧ cmdLen w / unitOf (cmdDir w) ≤ s.build.maxBlocks ∧
          start w s = { s with
            cmd := w, olen := 0, canary := 0, blk := 0, nblk := cmdLen w / unitOf (cmdDir w), status := Status.running }))) := by
  cases hb : s.status.busy
  · right
    refine ⟨rfl, ?_⟩
    by_cases h1 : cmdLen w % unitOf (cmdDir w) = 0
    · by_cases h2 : s.build.maxBlocks < cmdLen w / unitOf (cmdDir w)
      · exact .inr (.inl ⟨h1, h2, by simp [start, hb, h1, h2, raiseInvalidInput]⟩)
      · exact .inr (.inr ⟨h1, by omega, by simp [start, hb, h1, h2]⟩)
    · exact .inl ⟨h1, by simp [start, hb, h1, raiseInvalidInput]⟩
  · exact .inl ⟨rfl, by simp [start, hb]⟩

/-- A selector that selects nothing is the only way for decoding a selector to fail. -/
theorem decodeSel_error (w : BitVec 3) (r : Reject) (h : decodeSel w = .error r) : r = .noStepSelected w := by
  revert h
  simp only [decodeSel]
  split_ifs <;> simp [eq_comm]

/-- One step: the decoded item is run, or the engine is idle, or a bare code is no symbol. -/
theorem step_cases (s : State) :
    (∃ i, decode s.turn.1 = .ok i ∧ step s = exec i s.turn.2) ∨
    (∃ w, s.turn.1 = .sel w ∧ step s = .next s.turn.2) ∨
    (∃ c, s.turn.1 = .host (.sym c) ∧ step s = .refused (.undecodable (.notASymbol c))) := by
  cases hd : decode s.turn.1 with
  | ok i => exact .inl ⟨i, rfl, by simp [step, hd]⟩
  | error r =>
    cases hx : s.turn.1 with
    | sel w =>
      rw [hx] at hd
      obtain rfl := decodeSel_error w r hd
      exact .inr (.inl ⟨w, rfl, by simp [step, hx, hd]⟩)
    | host h =>
      cases h with
      | cmd w => rw [hx] at hd; cases hd
      | port t => rw [hx] at hd; cases hd
      | sym c =>
        rw [hx] at hd
        have hr : r = .notASymbol c := by
          simp only [decode, decodeHost, decodeSym] at hd
          split at hd <;> cases hd
          rfl
        subst hr
        exact .inr (.inr ⟨c, rfl, by simp [step, hx, hd]⟩)

/-- Taking a turn touches the inbox alone. -/
theorem State.turn_state (s : State) : s.turn.2 = { s with inbox := s.turn.2.inbox } := by
  simp only [State.turn]
  split <;> rfl

/-- With nothing waiting the turn is the engine's, and nothing is taken. -/
theorem State.turn_of_empty (s : State) (h : s.inbox = []) : s.turn = (.sel s.sel, s) := by
  simp [State.turn, h]

end Sys2Proof.Machine
end

