-- ==== Sys2Proof/Laws/Params.lean ====
section
/-! SUPPORT. What an admissible instance guarantees, what a table read gives, and how taint goes through OR. -/

namespace Sys2Proof

theorem Params.length_of_ok {p : Params} (h : p.ok = true) : p.alphabet.length = 85 := by
  simp only [Params.ok, Params.alphabetLength, Bool.and_eq_true, beq_iff_eq] at h
  exact h.1.1.1.1.1.1.1

theorem Params.nodup_of_ok {p : Params} (h : p.ok = true) : p.alphabet.Nodup := by
  simp only [Params.ok, Params.alphabetDistinct, Bool.and_eq_true, decide_eq_true_eq] at h
  exact h.1.1.1.1.1.1.2

theorem Params.charW_of_ok {p : Params} (h : p.ok = true) : 8 ≤ p.charW := by
  simp only [Params.ok, Params.charWidth, Bool.and_eq_true, decide_eq_true_eq] at h
  exact h.1.1.2

theorem Params.maxBlocks_of_ok {p : Params} (h : p.ok = true) : 4 ≤ p.maxBlocks ∧ 5 * p.maxBlocks ≤ 2 ^ 31 - 1 := by
  simp only [Params.ok, Params.leastBlocks, Params.mostBlocks, Bool.and_eq_true, decide_eq_true_eq] at h
  exact ⟨h.1.2, h.2⟩

/-- A byte fits a unit of CHAR_W bits. -/
theorem Params.byte_fits {p : Params} (h : p.ok = true) (v : Byte) : v.toNat < 2 ^ p.charW :=
  Nat.lt_of_lt_of_le v.isLt (Nat.pow_le_pow_right (by decide) (Params.charW_of_ok h))

/-- The entry of an alphabet character is its position. -/
theorem Params.decLut_of_mem {p : Params} {a : BitVec 7} (h : a ∈ p.alphabet) :
    p.decLut a = BitVec.ofNat 8 (p.alphabet.idxOf a) := by
  simp [Params.decLut, h]

/-- The entry of any other code is the sentinel. -/
theorem Params.decLut_of_not_mem {p : Params} {a : BitVec 7} (h : a ∉ p.alphabet) : p.decLut a = Config.sentinel := by
  simp [Params.decLut, h]

/-- Bit 7 of every encode-table entry is 0 (10_state.md R11). -/
theorem Params.encLut_lt (p : Params) (d : Nat) : (p.encLut d).toNat < 128 := by
  rw [Params.encLut, BitVec.toNat_setWidth]
  exact Nat.lt_of_le_of_lt (Nat.mod_le _ _) (p.alphabet.getD d 0).isLt

end Sys2Proof

namespace Sys2Proof.Machine

/-- An OR is tainted exactly when one of its terms is (40_decode.md R77). -/
theorem taint_or (x y : Nat) : taint (x ||| y) = (taint x || taint y) := by
  rw [Bool.eq_iff_iff, Bool.or_eq_true]
  simp only [taint, bne_iff_ne, ne_eq, Nat.shiftRight_or_distrib, Nat.or_eq_zero_iff, not_and_or]

/-- Taint is a value of 128 or above. -/
theorem taint_iff (x : Nat) : taint x = true ↔ 128 ≤ x := by
  simp only [taint, bne_iff_ne, ne_eq, Nat.shiftRight_eq_div_pow]
  omega

end Sys2Proof.Machine
end

