-- ==== Sys2Proof/Laws/PerInstr.lean ====
section
/-! SUPPORT. Facts about each instruction as syntax, one lemma per constructor. -/

namespace Sys2Proof.Laws.TableFormat

/-- The encoded form of an instruction is of the format its row of the opcode table has. -/
def Statement (i : Instr) : Prop := (encode i).format = i.format

theorem dec (n : BitVec 31) : Statement (.dec n) := rfl
theorem enc (n : BitVec 31) : Statement (.enc n) := rfl
theorem decblk : Statement (.decblk) := rfl
theorem decfin : Statement (.decfin) := rfl
theorem encblk : Statement (.encblk) := rfl
theorem encfin : Statement (.encfin) := rfl
theorem wrt (i : Nat) (c : Code) : Statement (.wrt i c) := rfl
theorem wrb (i : Nat) (v : Byte) : Statement (.wrb i v) := rfl
theorem rdt (i : Nat) : Statement (.rdt i) := rfl
theorem rdb (i : Nat) : Statement (.rdb i) := rfl
theorem rds : Statement (.rds) := rfl
theorem rdl : Statement (.rdl) := rfl
theorem rdc : Statement (.rdc) := rfl
theorem reset : Statement (.reset) := rfl
theorem sym_00 : Statement (.sym_00) := rfl
theorem sym_01 : Statement (.sym_01) := rfl
theorem sym_02 : Statement (.sym_02) := rfl
theorem sym_03 : Statement (.sym_03) := rfl
theorem sym_04 : Statement (.sym_04) := rfl
theorem sym_05 : Statement (.sym_05) := rfl
theorem sym_06 : Statement (.sym_06) := rfl
theorem sym_07 : Statement (.sym_07) := rfl
theorem sym_08 : Statement (.sym_08) := rfl
theorem sym_09 : Statement (.sym_09) := rfl
theorem sym_10 : Statement (.sym_10) := rfl
theorem sym_11 : Statement (.sym_11) := rfl
theorem sym_12 : Statement (.sym_12) := rfl
theorem sym_13 : Statement (.sym_13) := rfl
theorem sym_14 : Statement (.sym_14) := rfl
theorem sym_15 : Statement (.sym_15) := rfl
theorem sym_16 : Statement (.sym_16) := rfl
theorem sym_17 : Statement (.sym_17) := rfl
theorem sym_18 : Statement (.sym_18) := rfl
theorem sym_19 : Statement (.sym_19) := rfl
theorem sym_20 : Statement (.sym_20) := rfl
theorem sym_21 : Statement (.sym_21) := rfl
theorem sym_22 : Statement (.sym_22) := rfl
theorem sym_23 : Statement (.sym_23) := rfl
theorem sym_24 : Statement (.sym_24) := rfl
theorem sym_25 : Statement (.sym_25) := rfl
theorem sym_26 : Statement (.sym_26) := rfl
theorem sym_27 : Statement (.sym_27) := rfl
theorem sym_28 : Statement (.sym_28) := rfl
theorem sym_29 : Statement (.sym_29) := rfl
theorem sym_30 : Statement (.sym_30) := rfl
theorem sym_31 : Statement (.sym_31) := rfl
theorem sym_32 : Statement (.sym_32) := rfl
theorem sym_33 : Statement (.sym_33) := rfl
theorem sym_34 : Statement (.sym_34) := rfl
theorem sym_35 : Statement (.sym_35) := rfl
theorem sym_36 : Statement (.sym_36) := rfl
theorem sym_37 : Statement (.sym_37) := rfl
theorem sym_38 : Statement (.sym_38) := rfl
theorem sym_39 : Statement (.sym_39) := rfl
theorem sym_40 : Statement (.sym_40) := rfl
theorem sym_41 : Statement (.sym_41) := rfl
theorem sym_42 : Statement (.sym_42) := rfl
theorem sym_43 : Statement (.sym_43) := rfl
theorem sym_44 : Statement (.sym_44) := rfl
theorem sym_45 : Statement (.sym_45) := rfl
theorem sym_46 : Statement (.sym_46) := rfl
theorem sym_47 : Statement (.sym_47) := rfl
theorem sym_48 : Statement (.sym_48) := rfl
theorem sym_49 : Statement (.sym_49) := rfl
theorem sym_50 : Statement (.sym_50) := rfl
theorem sym_51 : Statement (.sym_51) := rfl
theorem sym_52 : Statement (.sym_52) := rfl
theorem sym_53 : Statement (.sym_53) := rfl
theorem sym_54 : Statement (.sym_54) := rfl
theorem sym_55 : Statement (.sym_55) := rfl
theorem sym_56 : Statement (.sym_56) := rfl
theorem sym_57 : Statement (.sym_57) := rfl
theorem sym_58 : Statement (.sym_58) := rfl
theorem sym_59 : Statement (.sym_59) := rfl
theorem sym_60 : Statement (.sym_60) := rfl
theorem sym_61 : Statement (.sym_61) := rfl
theorem sym_62 : Statement (.sym_62) := rfl
theorem sym_63 : Statement (.sym_63) := rfl
theorem sym_64 : Statement (.sym_64) := rfl
theorem sym_65 : Statement (.sym_65) := rfl
theorem sym_66 : Statement (.sym_66) := rfl
theorem sym_67 : Statement (.sym_67) := rfl
theorem sym_68 : Statement (.sym_68) := rfl
theorem sym_69 : Statement (.sym_69) := rfl
theorem sym_70 : Statement (.sym_70) := rfl
theorem sym_71 : Statement (.sym_71) := rfl
theorem sym_72 : Statement (.sym_72) := rfl
theorem sym_73 : Statement (.sym_73) := rfl
theorem sym_74 : Statement (.sym_74) := rfl
theorem sym_75 : Statement (.sym_75) := rfl
theorem sym_76 : Statement (.sym_76) := rfl
theorem sym_77 : Statement (.sym_77) := rfl
theorem sym_78 : Statement (.sym_78) := rfl
theorem sym_79 : Statement (.sym_79) := rfl
theorem sym_80 : Statement (.sym_80) := rfl
theorem sym_81 : Statement (.sym_81) := rfl
theorem sym_82 : Statement (.sym_82) := rfl
theorem sym_83 : Statement (.sym_83) := rfl
theorem sym_84 : Statement (.sym_84) := rfl

end Sys2Proof.Laws.TableFormat
end

