-- ==== Sys2Proof/Laws/Runs.lean ====
section
/-! SUPPORT. Runs of several steps: their equations, and an induction over them packaged once. -/

namespace Sys2Proof.Machine

@[simp] theorem steps_zero (s : State) : steps 0 s = .next s := rfl

/-- A run's first step. -/
theorem steps_succ {s t : State} (k : Nat) (h : step s = .next t) : steps (k + 1) s = steps k t := by
  have h' : Sys2Proof.core.step s = .next t := h
  simp only [steps, Host.Core.run, h']
  rfl

/-- Two runs one after the other. -/
theorem steps_add {s t : State} (j k : Nat) (h : steps j s = .next t) : steps (j + k) s = steps k t := by
  induction j generalizing s with
  | zero => cases h; rw [Nat.zero_add]
  | succ j ih =>
    cases hs : step s with
    | next u =>
      rw [steps_succ j hs] at h
      rw [Nat.succ_add, steps_succ (j + k) hs]
      exact ih h
    | fault f => nomatch f
    | refused r =>
      have h' : Sys2Proof.core.step s = .refused r := hs
      simp [steps, Host.Core.run, h'] at h

/-- A property that every step keeps holds at the end of every run from a state that has it. -/
theorem steps_keep {P : State → Prop} (keep : ∀ s t, P s → step s = .next t → P t) {s t : State} (k : Nat) (hs : P s)
    (h : steps k s = .next t) : P t := by
  induction k generalizing s with
  | zero => cases h; exact hs
  | succ k ih =>
    cases hu : step s with
    | next u => exact ih (keep s u hs hu) (steps_succ k hu ▸ h)
    | fault f => nomatch f
    | refused r =>
      have h' : Sys2Proof.core.step s = .refused r := hu
      simp [steps, Host.Core.run, h'] at h

end Sys2Proof.Machine
end

