-- ==== Sys2Proof/Tests/Slice0.lean ====
section
/-! SUPPORT. The model's own tests, their expected results taken from the spec's tables and vectors (95_test_vectors.md),
and for every statement with hypotheses a witness that meets them. -/

namespace Sys2Proof.Tests

open Sys2Proof Sys2Proof.Machine

/-! Small states -/

/-- The next state of a step that has one; the reset state otherwise. -/
def after (o : Host.Outcome State Fault Refusal) : State :=
  match o with
  | .next s => s
  | .fault _ => State.reset
  | .refused _ => State.reset

/-- A state with a text in TBUF from index 0 on. -/
def withText (s : State) (codes : List Code) : State := { s with tbuf := (List.range codes.length).zip codes }

/-- A state with bytes in BBUF from index 0 on. -/
def withBytes (s : State) (bytes : List Byte) : State := { s with bbuf := (List.range bytes.length).zip bytes }

/-- A decode call of one block in progress. -/
def decoding : State := { State.reset with cmd := 5, status := Status.running, nblk := 1 }

/-- The same call with its block done. -/
def decoded : State := { decoding with blk := 1, canary := 0x7F }

/-- The same with taint. -/
def tainted : State := { decoding with blk := 1, canary := 0x80 }

/-- An encode call of one block in progress. -/
def encoding : State := { State.reset with cmd := 0x80000004#32, status := Status.running, nblk := 1 }

/-- The same call with its block done. -/
def encoded : State := { encoding with blk := 1 }

/-- The same instance with 16-bit character codes. -/
def wide : Params := { Config.defaultParams with charW := 16 }

/-! Well-formedness: an ill-formed term for each check -/

theorem test_default_params_ok : Config.defaultParams.ok = true := by decide
theorem test_wide_params_ok : wide.ok = true := by decide
theorem test_short_alphabet_refused : Params.ok { wide with alphabet := Config.defaultAlphabet.take 84 } = false := by decide
theorem test_repeated_character_refused :
    Params.alphabetDistinct { wide with alphabet := Config.defaultAlphabet.take 84 ++ [0x30#7] } = false := by decide
theorem test_zero_elsewhere_refused : Params.alphabetZero { wide with alphabet := Config.defaultAlphabet.drop 1 } = false := by
  decide
theorem test_space_in_alphabet_refused :
    Params.alphabetPrintable { wide with alphabet := Config.defaultAlphabet.take 84 ++ [0x20#7] } = false := by decide
theorem test_class_order_refused :
    Params.alphabetClasses { wide with alphabet := [0x30#7, 0x41#7, 0x61#7] } = false := by decide
theorem test_narrow_codes_refused : Params.charWidth { wide with charW := 7 } = false := by decide
theorem test_three_blocks_refused : Params.leastBlocks { wide with maxBlocks := 3 } = false := by decide
theorem test_too_many_blocks_refused : Params.mostBlocks { wide with maxBlocks := 429496730 } = false := by decide
theorem test_most_blocks_admitted : Params.mostBlocks { wide with maxBlocks := 429496729 } = true := by decide
theorem test_wide_code_ill_formed : Instr.wellFormed Config.defaultParams (.wrt 0 0x130) = false := by decide
theorem test_wide_code_fits_16 : Instr.wellFormed wide (.wrt 0 0x130) = true := by decide

/-! Decoding: words written out bit by bit from 30_encoding.md R55, R59, R60 and the opcode table -/

theorem test_decode_dec :
    decode (.host (.cmd 0b01111111111111111111111111111101#32)) = .ok (.dec 0x7FFFFFFD#31) := by decide
theorem test_decode_enc :
    decode (.host (.cmd 0b11111111111111111111111111111100#32)) = .ok (.enc 0x7FFFFFFC#31) := by decide
theorem test_decode_selectors :
    [0b000#3, 0b001#3, 0b010#3, 0b011#3, 0b100#3, 0b101#3, 0b110#3, 0b111#3].map (fun w => (decode (.sel w)).toOption)
      = [none, none, none, none, some .decblk, some .decfin, some .encblk, some .encfin] := by decide
theorem test_decode_ports :
    [PortTx.writeText 2 0x48, .writeByte 3 0x6F#8, .readText 4, .readByte 5, .readStatus, .readLength, .readCommand,
        .reset].map (fun t => (decode (.host (.port t))).toOption)
      = [some (.wrt 2 0x48), some (.wrb 3 0x6F#8), some (.rdt 4), some (.rdb 5), some .rds, some .rdl, some .rdc,
        some .reset] := by decide
theorem test_reject_space : decode (.host (.sym 0x20#8)) = .error (.notASymbol 0x20#8) := by decide
theorem test_table_words :
    [decodeTableWord 32 0x80000010, decodeTableWord 8 0x30, decodeTableWord 8 4, decodeTableWord 3 5, decodeTableWord 16 0]
      = [some (.enc 16), some .sym_00, some .decblk, some .decfin, none] := by decide

theorem test_decode_symbols_0_to_16 :
    ([(0b00110000#8, .sym_00), (0b00110001#8, .sym_01), (0b00110010#8, .sym_02),
     (0b00110011#8, .sym_03), (0b00110100#8, .sym_04), (0b00110101#8, .sym_05),
     (0b00110110#8, .sym_06), (0b00110111#8, .sym_07), (0b00111000#8, .sym_08),
     (0b00111001#8, .sym_09), (0b01100001#8, .sym_10), (0b01100010#8, .sym_11),
     (0b01100011#8, .sym_12), (0b01100100#8, .sym_13), (0b01100101#8, .sym_14),
     (0b01100110#8, .sym_15), (0b01100111#8, .sym_16)] :
      List (Byte × Instr)).all (fun r => decide (decode (.host (.sym r.1)) = .ok r.2)) = true := by decide

theorem test_decode_symbols_17_to_33 :
    ([(0b01101000#8, .sym_17), (0b01101001#8, .sym_18), (0b01101010#8, .sym_19),
     (0b01101011#8, .sym_20), (0b01101100#8, .sym_21), (0b01101101#8, .sym_22),
     (0b01101110#8, .sym_23), (0b01101111#8, .sym_24), (0b01110000#8, .sym_25),
     (0b01110001#8, .sym_26), (0b01110010#8, .sym_27), (0b01110011#8, .sym_28),
     (0b01110100#8, .sym_29), (0b01110101#8, .sym_30), (0b01110110#8, .sym_31),
     (0b01110111#8, .sym_32), (0b01111000#8, .sym_33)] :
      List (Byte × Instr)).all (fun r => decide (decode (.host (.sym r.1)) = .ok r.2)) = true := by decide

theorem test_decode_symbols_34_to_50 :
    ([(0b01111001#8, .sym_34), (0b01111010#8, .sym_35), (0b01000001#8, .sym_36),
     (0b01000010#8, .sym_37), (0b01000011#8, .sym_38), (0b01000100#8, .sym_39),
     (0b01000101#8, .sym_40), (0b01000110#8, .sym_41), (0b01000111#8, .sym_42),
     (0b01001000#8, .sym_43), (0b01001001#8, .sym_44), (0b01001010#8, .sym_45),
     (0b01001011#8, .sym_46), (0b01001100#8, .sym_47), (0b01001101#8, .sym_48),
     (0b01001110#8, .sym_49), (0b01001111#8, .sym_50)] :
      List (Byte × Instr)).all (fun r => decide (decode (.host (.sym r.1)) = .ok r.2)) = true := by decide

theorem test_decode_symbols_51_to_67 :
    ([(0b01010000#8, .sym_51), (0b01010001#8, .sym_52), (0b01010010#8, .sym_53),
     (0b01010011#8, .sym_54), (0b01010100#8, .sym_55), (0b01010101#8, .sym_56),
     (0b01010110#8, .sym_57), (0b01010111#8, .sym_58), (0b01011000#8, .sym_59),
     (0b01011001#8, .sym_60), (0b01011010#8, .sym_61), (0b00101110#8, .sym_62),
     (0b00101101#8, .sym_63), (0b00111010#8, .sym_64), (0b00101011#8, .sym_65),
     (0b00111101#8, .sym_66), (0b01011110#8, .sym_67)] :
      List (Byte × Instr)).all (fun r => decide (decode (.host (.sym r.1)) = .ok r.2)) = true := by decide

theorem test_decode_symbols_68_to_84 :
    ([(0b00100001#8, .sym_68), (0b00101111#8, .sym_69), (0b00101010#8, .sym_70),
     (0b00111111#8, .sym_71), (0b00100110#8, .sym_72), (0b00111100#8, .sym_73),
     (0b00111110#8, .sym_74), (0b00101000#8, .sym_75), (0b00101001#8, .sym_76),
     (0b01011011#8, .sym_77), (0b01011101#8, .sym_78), (0b01111011#8, .sym_79),
     (0b01111101#8, .sym_80), (0b01000000#8, .sym_81), (0b00100101#8, .sym_82),
     (0b00100100#8, .sym_83), (0b00100011#8, .sym_84)] :
      List (Byte × Instr)).all (fun r => decide (decode (.host (.sym r.1)) = .ok r.2)) = true := by decide

/-! The tables (30_encoding.md R56, as the 8 by 16 matrix) -/

theorem test_declut_row_0 :
    (List.range 16).map (fun k => Config.defaultParams.decLookup (0x00 + k)) =
      [0xFF#8, 0xFF#8, 0xFF#8, 0xFF#8, 0xFF#8, 0xFF#8, 0xFF#8, 0xFF#8,
       0xFF#8, 0xFF#8, 0xFF#8, 0xFF#8, 0xFF#8, 0xFF#8, 0xFF#8, 0xFF#8] := by decide

theorem test_declut_row_1 :
    (List.range 16).map (fun k => Config.defaultParams.decLookup (0x10 + k)) =
      [0xFF#8, 0xFF#8, 0xFF#8, 0xFF#8, 0xFF#8, 0xFF#8, 0xFF#8, 0xFF#8,
       0xFF#8, 0xFF#8, 0xFF#8, 0xFF#8, 0xFF#8, 0xFF#8, 0xFF#8, 0xFF#8] := by decide

theorem test_declut_row_2 :
    (List.range 16).map (fun k => Config.defaultParams.decLookup (0x20 + k)) =
      [0xFF#8, 0x44#8, 0xFF#8, 0x54#8, 0x53#8, 0x52#8, 0x48#8, 0xFF#8,
       0x4B#8, 0x4C#8, 0x46#8, 0x41#8, 0xFF#8, 0x3F#8, 0x3E#8, 0x45#8] := by decide

theorem test_declut_row_3 :
    (List.range 16).map (fun k => Config.defaultParams.decLookup (0x30 + k)) =
      [0x00#8, 0x01#8, 0x02#8, 0x03#8, 0x04#8, 0x05#8, 0x06#8, 0x07#8,
       0x08#8, 0x09#8, 0x40#8, 0xFF#8, 0x49#8, 0x42#8, 0x4A#8, 0x47#8] := by decide

theorem test_declut_row_4 :
    (List.range 16).map (fun k => Config.defaultParams.decLookup (0x40 + k)) =
      [0x51#8, 0x24#8, 0x25#8, 0x26#8, 0x27#8, 0x28#8, 0x29#8, 0x2A#8,
       0x2B#8, 0x2C#8, 0x2D#8, 0x2E#8, 0x2F#8, 0x30#8, 0x31#8, 0x32#8] := by decide

theorem test_declut_row_5 :
    (List.range 16).map (fun k => Config.defaultParams.decLookup (0x50 + k)) =
      [0x33#8, 0x34#8, 0x35#8, 0x36#8, 0x37#8, 0x38#8, 0x39#8, 0x3A#8,
       0x3B#8, 0x3C#8, 0x3D#8, 0x4D#8, 0xFF#8, 0x4E#8, 0x43#8, 0xFF#8] := by decide

theorem test_declut_row_6 :
    (List.range 16).map (fun k => Config.defaultParams.decLookup (0x60 + k)) =
      [0xFF#8, 0x0A#8, 0x0B#8, 0x0C#8, 0x0D#8, 0x0E#8, 0x0F#8, 0x10#8,
       0x11#8, 0x12#8, 0x13#8, 0x14#8, 0x15#8, 0x16#8, 0x17#8, 0x18#8] := by decide

theorem test_declut_row_7 :
    (List.range 16).map (fun k => Config.defaultParams.decLookup (0x70 + k)) =
      [0x19#8, 0x1A#8, 0x1B#8, 0x1C#8, 0x1D#8, 0x1E#8, 0x1F#8, 0x20#8,
       0x21#8, 0x22#8, 0x23#8, 0x4F#8, 0xFF#8, 0x50#8, 0xFF#8, 0xFF#8] := by decide

theorem test_enclut_highest :
    [82, 83, 84].map Config.defaultParams.encLut = [0x25#8, 0x24#8, 0x23#8] := by decide  -- V119
theorem test_lookup_uses_low_seven_bits :
    [0xE9, 0xB0, 0x80].map Config.defaultParams.decLookup = [18#8, 0#8, 0xFF#8] ∧ wide.decLookup 0x0130 = 0#8 := by
  decide  -- V115, V116, V117, V118

/-! DEC and ENC -/

-- R110: DEC 10 accepted; MAX_BLOCKS = 4 blocks fit
theorem test_dec_accepted :
    (after (exec (.dec 10) State.reset)).status.byte = 0x01#8 ∧ (after (exec (.dec 10) State.reset)).nblk = 2
      ∧ (after (exec (.dec 20) State.reset)).nblk = 4 := by decide
-- V50, V91, V92 (MAX_BLOCKS = 4), V84 (ignored while busy)
theorem test_dec_failures :
    (after (exec (.dec 4) State.reset)).status.byte = 0x0E#8 ∧ (after (exec (.dec 25) State.reset)).status.byte = 0x1E#8
      ∧ (after (exec (.dec 26) State.reset)).status.byte = 0x0E#8 ∧ (after (exec (.dec 4) decoding)).cmd = 5 := by decide
-- P6: ENC 20 and ENC 18 with MAX_BLOCKS = 4; R110: ENC 16
theorem test_enc_failures :
    (after (exec (.enc 20) State.reset)).status.byte = 0x1E#8 ∧ (after (exec (.enc 18) State.reset)).status.byte = 0x0E#8 := by
  decide
theorem test_enc_accepted :
    (after (exec (.enc 16) State.reset)).status.byte = 0x01#8 ∧ (after (exec (.enc 16) State.reset)).nblk = 4
      ∧ (after (exec (.enc 16) State.reset)).cmd = 0x80000010#32 := by decide

/-! The engine's steps -/

-- R78's worked example, "Hello"
theorem test_decblk_hello :
    let t := after (exec .decblk (withText decoding [0x48, 0x65, 0x6C, 0x6C, 0x6F]))
    t.bbuf = [(0, 0x86#8), (1, 0x4F#8), (2, 0xD2#8), (3, 0x6F#8)] ∧ t.canary = 0x7F ∧ t.blk = 1
      ∧ t.dp.d = ⟨43, 14, 21, 21, 24⟩ ∧ t.dp.s = 2253378159 := by decide
-- V36: the sentinel enters the sum as 255 and the sum needs 34 bits; V18 wraps
theorem test_decblk_sentinel_and_wrap :
    (after (exec .decblk (withText decoding [0x20, 0x30, 0x30, 0x30, 0x30]))).bbuf
        = [(0, 0x19#8), (1, 0x68#8), (2, 0x2C#8), (3, 0x4F#8)]
      ∧ (after (exec .decblk (withText decoding [0x20, 0x30, 0x30, 0x30, 0x30]))).canary = 0xFF
      ∧ (after (exec .decblk (withText decoding [0x23, 0x23, 0x23, 0x23, 0x23]))).bbuf
        = [(0, 0x08#8), (1, 0x78#8), (2, 0x0E#8), (3, 0xC4#8)] := by decide
-- E4, the euro sign as one 16-bit unit
theorem test_decblk_wide_code :
    (after (exec .decblk { withText decoding [0x30, 0x30, 0x30, 0x30, 0x20AC] with build := wide })).canary = 0x20FF := by decide
theorem test_decfin_success :
    (after (exec .decfin decoded)).status.byte = 0x02#8 ∧ (after (exec .decfin decoded)).olen = 4 := by decide
-- V53
theorem test_decfin_taint :
    (after (exec .decfin tainted)).status.byte = 0x16#8 ∧ (after (exec .decfin tainted)).olen = 0 := by decide
-- R95's worked example and V44
theorem test_encblk_hello :
    let t := after (exec .encblk (withBytes encoding [0x86#8, 0x4F#8, 0xD2#8, 0x6F#8]))
    t.tbuf = [(0, 0x48), (1, 0x65), (2, 0x6C), (3, 0x6C), (4, 0x6F)] ∧ t.blk = 1 ∧ t.dp.rm = 24 := by decide
theorem test_encblk_largest :
    (after (exec .encblk (withBytes encoding [0xFF#8, 0xFF#8, 0xFF#8, 0xFF#8]))).tbuf
      = [(0, 0x25), (1, 0x6E), (2, 0x53), (3, 0x63), (4, 0x30)] := by decide
theorem test_encfin :
    (after (exec .encfin encoded)).status.byte = 0x02#8 ∧ (after (exec .encfin encoded)).olen = 5 := by decide

/-! The host's operations (95_test_vectors.md, section 2.5) -/

theorem test_wrt : (after (exec (.wrt 0 0x48) State.reset)).readText 0 = 0x48 := by decide  -- V80
theorem test_wrt_busy_or_out_of_range :
    exec (.wrt 0 0x20) decoding = .next decoding ∧ exec (.wrt 20 0x30) State.reset = .next State.reset := ⟨rfl, rfl⟩  -- V82, V86
theorem test_wrb : (after (exec (.wrb 3 0x6F#8) State.reset)).readByte 3 = 0x6F#8 := by decide  -- V81
theorem test_wrb_busy_or_out_of_range :
    exec (.wrb 3 0xFF#8) encoding = .next encoding ∧ exec (.wrb 16 0#8) State.reset = .next State.reset := ⟨rfl, rfl⟩
theorem test_rdt : (after (exec (.rdt 1) (withText State.reset [0x30, 0x48]))).reply = .code 0x48 := by decide
theorem test_rdb : (after (exec (.rdb 1) (withBytes State.reset [0x30#8, 0x6F#8]))).reply = .byte 0x6F#8 := by decide
theorem test_rdb_busy_draws : (after (exec (.rdb 0) decoding)).draws = 2 := by decide  -- V83
theorem test_rds : (after (exec .rds decoding)).reply = .status 0x01#8 := by decide  -- V85
theorem test_rdl : (after (exec .rdl { decoded with olen := 8 })).reply = .length 8 := by decide
theorem test_rdc : (after (exec .rdc encoding)).reply = .command 0x80000004#32 := by decide  -- V85
theorem test_reset_during_a_call :
    (after (exec .reset decoded)).status.byte = 0x00#8 ∧ (after (exec .reset decoded)).cmd = 0
      ∧ (after (exec .reset decoded)).nblk = 0 ∧ (after (exec .reset decoded)).canary = 0 := by decide  -- V96

/-! The symbols: each row's two table reads (30_encoding.md R55, R56) -/

theorem test_symbols :
    (symRows.zipIdx).all (fun r => decide ((after (exec r.1.2 State.reset)).symRead = (r.1.1, BitVec.ofNat 8 r.2))) = true := by
  decide

/-! The step -/

theorem test_step_host_item :
    (after (step { State.reset with inbox := [.host (.cmd 0x0000000A#32), .engine] })).inbox = [.engine] := by decide
theorem test_step_idle : step State.reset = .next State.reset := rfl
theorem test_step_engine : step decoded = exec .decfin decoded := rfl
theorem test_step_undecodable :
    step { State.reset with inbox := [.host (.sym 0x20#8)] } = .refused (.undecodable (.notASymbol 0x20#8)) := rfl
theorem test_fetch_word_dec :
    (after (step (State.reset.withFetchWord 32 0x0000000A))).cmd = 0x0000000A#32 := by decide
theorem test_fetch_word_selectors :
    (after (step (State.reset.withFetchWord 8 4))).blk = 1
      ∧ (after (step (State.reset.withFetchWord 8 7))).status = Status.succeeded := by decide
theorem test_fetch_word_symbol : (after (step (State.reset.withFetchWord 8 0x23))).symRead = (0x23#8, 84#8) := by decide
theorem test_reset_buffers_canonical :
    Memory.wf 20 (fun c => decide (c < 256)) State.reset.tbuf = true ∧ Memory.wf 16 (fun _ => true) State.reset.bbuf = true := by
  decide

/-! The call contract -/

-- V20, V53 and the source's zero block
theorem test_decode_call :
    decodeCall wide [0x48, 0x65, 0x6C, 0x6C, 0x6F] = .ok [0x86#8, 0x4F#8, 0xD2#8, 0x6F#8]
      ∧ decodeCall wide [0x30, 0x30, 0x30, 0x30, 0x20] = .err .character ∧ decodeCall wide [0x30] = .err .length := by decide
theorem test_encode_call :
    encodeCall wide [0x86#8, 0x4F#8, 0xD2#8, 0x6F#8] = .ok [0x48#8, 0x65#8, 0x6C#8, 0x6C#8, 0x6F#8] := by decide

/-! Witnesses: a state and operands that meet the hypotheses of each statement, at the boundaries of its clauses -/

theorem reset_inv : State.reset.Inv where
  build := test_default_params_ok
  status := by decide
  blk := by decide
  nblk := by decide
  length := by decide
  olen := by decide
  olenDone := by decide
  canary := by decide
  canaryEncode := by decide
  datapath := by decide
  buffers := by decide

theorem decoding_inv : decoding.Inv where
  build := test_default_params_ok
  status := by decide
  blk := by decide
  nblk := by decide
  length := by decide
  olen := by decide
  olenDone := by decide
  canary := by decide
  canaryEncode := by decide
  datapath := by decide
  buffers := by decide

theorem encoded_inv : encoded.Inv where
  build := test_default_params_ok
  status := by decide
  blk := by decide
  nblk := by decide
  length := by decide
  olen := by decide
  olenDone := by decide
  canary := by decide
  canaryEncode := by decide
  datapath := by decide
  buffers := by decide

/-- A state that a whole call starts from: a text, a stale error, and one host item waiting. -/
def waiting (w : Word) : State :=
  { withBytes (withText State.reset [0x48, 0x65, 0x6C, 0x6C, 0x6F]) [0x86#8, 0x4F#8, 0xD2#8, 0x6F#8] with
    status := Status.failed .character, inbox := [.host (.cmd w)] }

theorem waiting_zero_inv : (waiting 0).Inv where
  build := test_default_params_ok
  status := by decide
  blk := by decide
  nblk := by decide
  length := by decide
  olen := by decide
  olenDone := by decide
  canary := by decide
  canaryEncode := by decide
  datapath := by decide
  buffers := by decide

/-- The invariant says nothing of the inbox. -/
theorem waiting_inv (w : Word) : (waiting w).Inv := { waiting_zero_inv with }

theorem witness_CommandWordSelectsByBit31 :
    (0x7FFFFFFF#32).toNat < 2 ^ 31 ∧ 2 ^ 31 ≤ (0x80000000#32).toNat ∧ State.reset.status.busy = false := by decide
theorem witness_DecodeAndEncodeAgree : decode (.host (.cmd 0xFFFFFFFF#32)) = .ok (.enc 0x7FFFFFFF#31) := by decide
theorem witness_StepRunsTheHostItem :
    (waiting 10).inbox = .host (.cmd 10) :: [] ∧ decode (.host (.cmd 10)) = .ok (.dec 10) := by decide
theorem witness_SelectorSelectsTheEnabledStep :
    (State.reset.blk ≤ State.reset.nblk ∧ State.reset.status.busy = false)
      ∧ (decoding.status.busy = true ∧ cmdDir decoding.cmd = false ∧ decoding.blk < decoding.nblk)
      ∧ (decoded.status.busy = true ∧ cmdDir decoded.cmd = false ∧ decoded.blk = decoded.nblk)
      ∧ (encoding.status.busy = true ∧ cmdDir encoding.cmd = true ∧ encoding.blk < encoding.nblk)
      ∧ (encoded.status.busy = true ∧ cmdDir encoded.cmd = true ∧ encoded.blk = encoded.nblk) := by decide
theorem witness_EngineTurnRunsTheSelectedStep :
    decoding.inbox = [] ∧ decode (.sel decoding.sel) = .ok .decblk ∧ State.reset.inbox = []
      ∧ State.reset.status.busy = false := by decide
theorem witness_EngineTurnRunsTheSelectedStep_waiting :
    ∃ rest, { decoding with inbox := [.engine] }.inbox = .engine :: rest ∧ decoding = { decoding with inbox := rest } :=
  ⟨[], rfl, rfl⟩
theorem witness_EngineStepNotEnabledChangesNothing :
    ¬ (decoded.status.busy = true ∧ cmdDir decoded.cmd = false ∧ decoded.blk < decoded.nblk)
      ∧ ¬ (decoding.status.busy = true ∧ cmdDir decoding.cmd = false ∧ decoding.blk = decoding.nblk)
      ∧ ¬ (encoded.status.busy = true ∧ cmdDir encoded.cmd = true ∧ encoded.blk < encoded.nblk)
      ∧ ¬ (State.reset.status.busy = true ∧ cmdDir State.reset.cmd = true ∧ State.reset.blk = State.reset.nblk) := by decide
theorem witness_PlacedWordIsRunNext :
    decodeTableWord 32 5 = some (.dec 5) ∧ decodeTableWord 8 7 = some .encfin ∧ (Instr.dec 5).format ≠ .sel
      ∧ Instr.encfin.format = .sel ∧ decodeTableWord 8 4 = some .decblk ∧ decodeTableWord 8 5 = some .decfin
      ∧ decodeTableWord 8 6 = some .encblk := by decide
theorem witness_TablesInvertEachOther :
    wide.ok = true ∧ (∀ i : Nat, i < 85 → wide.encLut i ≠ (0x7F#7).setWidth 8) ∧ (wide.decLut 0x23#7).toNat ≤ 84 := by decide
theorem witness_SymbolRowsReadTheirTableEntries :
    symRows[0]? = some (0x30#8, .sym_00) ∧ symRows[84]? = some (0x23#8, .sym_84) ∧ Instr.sym_84.format = .sym := by decide
theorem witness_WrtWritesItsUnit :
    0xFF < 2 ^ State.reset.build.charW ∧ State.reset.status.busy = false ∧ 19 < 5 * State.reset.build.maxBlocks
      ∧ 5 * State.reset.build.maxBlocks ≤ 20 ∧ decoding.status.busy = true := by decide
theorem witness_WrtCutsTheCodeToCharWidth :
    State.reset.status.busy = false ∧ 0 < 5 * State.reset.build.maxBlocks ∧ 0x130 % 2 ^ State.reset.build.charW = 0x30 := by
  decide
theorem witness_WrbWritesItsByte :
    State.reset.status.busy = false ∧ 15 < 4 * State.reset.build.maxBlocks ∧ 4 * State.reset.build.maxBlocks ≤ 16
      ∧ encoding.status.busy = true := by decide
theorem witness_RdtReturnsTheUnit :
    State.reset.status.busy = false ∧ 19 < 5 * State.reset.build.maxBlocks ∧ 5 * State.reset.build.maxBlocks ≤ 20 := by decide
theorem witness_RdbReturnsTheByte : State.reset.status.busy = false ∧ 15 < 4 * State.reset.build.maxBlocks := by decide
theorem witness_RdsRdlRdcReturnTheirRegisters : decoding.Inv ∧ decoding.status.busy = true := ⟨decoding_inv, by decide⟩
theorem witness_StatusLayoutValuesAndWriters :
    (waiting 10).Inv ∧ (waiting 10).status.err = true ∧ exec .decblk decoded = .next decoded
      ∧ (Instr.decblk).format ≠ .cmd := ⟨waiting_inv 10, by decide, rfl, by decide⟩
theorem witness_StartChecksTheLengthThenBegins_dec :
    (0x00000019#32).toNat = (25 : BitVec 31).toNat ∧ decoding.status.busy = true ∧ State.reset.status.busy = false
      ∧ (4 : BitVec 31).toNat % 5 ≠ 0
      ∧ ((25 : BitVec 31).toNat % 5 = 0 ∧ State.reset.build.maxBlocks < (25 : BitVec 31).toNat / 5)
      ∧ ((20 : BitVec 31).toNat % 5 = 0 ∧ (20 : BitVec 31).toNat / 5 ≤ State.reset.build.maxBlocks) := by decide
theorem witness_StartChecksTheLengthThenBegins_enc :
    (0x80000014#32).toNat = 2 ^ 31 + (20 : BitVec 31).toNat
      ∧ (18 : BitVec 31).toNat % 4 ≠ 0
      ∧ ((20 : BitVec 31).toNat % 4 = 0 ∧ State.reset.build.maxBlocks < (20 : BitVec 31).toNat / 4)
      ∧ ((16 : BitVec 31).toNat % 4 = 0 ∧ (16 : BitVec 31).toNat / 4 ≤ State.reset.build.maxBlocks) := by decide
theorem witness_BusyHostAccesses : decoding.status.busy = true := by decide
theorem witness_IndexOutOfRangeReachesNoUnit :
    5 * State.reset.build.maxBlocks ≤ 20 ∧ 4 * State.reset.build.maxBlocks ≤ 16 := by decide
theorem witness_DecblkDecodesOneBlock :
    decoding.status.busy = true ∧ cmdDir decoding.cmd = false ∧ decoding.blk < decoding.nblk := by decide
theorem witness_DecfinChecksTheCanaryOnce :
    (decoded.status.busy = true ∧ cmdDir decoded.cmd = false ∧ decoded.blk = decoded.nblk ∧ decoded.canary / 2 ^ 7 = 0)
      ∧ (tainted.status.busy = true ∧ cmdDir tainted.cmd = false ∧ tainted.blk = tainted.nblk
        ∧ tainted.canary / 2 ^ 7 ≠ 0) := by decide
theorem witness_EncblkEncodesOneBlock :
    encoding.status.busy = true ∧ cmdDir encoding.cmd = true ∧ encoding.blk < encoding.nblk := by decide
theorem witness_EncfinEndsTheCall :
    encoded.status.busy = true ∧ cmdDir encoded.cmd = true ∧ encoded.blk = encoded.nblk ∧ encoded.Inv :=
  ⟨by decide, by decide, by decide, encoded_inv⟩
-- V16 and V17 stand on the two sides of 2^32
theorem witness_BlockSumBoundsAndInjectivity : blockSum ⟨84, 84, 84, 84, 84⟩ = 85 ^ 5 - 1 := by decide
theorem witness_NonCanonicalGroupsWrap :
    blockSum ⟨82, 23, 54, 12, 0⟩ < 2 ^ 32 ∧ 2 ^ 32 ≤ blockSum ⟨82, 23, 54, 12, 1⟩
      ∧ (82#8).toNat ≤ 84 ∧ (54#8).toNat ≤ 84 := by decide
theorem witness_TaintIsPerCharacterValidity :
    wide.ok = true ∧ invalidCode wide 0x20 = true ∧ invalidCode wide 0xB0 = true ∧ invalidCode wide 0x30 = false := by decide
theorem witness_EncblkWritesValidCharacters :
    encoding.build.ok = true ∧ encoding.status.busy = true ∧ cmdDir encoding.cmd = true ∧ encoding.blk < encoding.nblk :=
  ⟨test_default_params_ok, by decide, by decide, by decide⟩
theorem witness_OnlyItsWritersChangeAnElement :
    exec .sym_00 State.reset = .next (State.reset.withSymRead 0x30#8 0#8) ∧ Instr.sym_00.format = .sym
      ∧ exec .rds State.reset = .next (State.reset.withReply (.status 0x00#8)) ∧ Instr.rds.format = .port
      ∧ (∀ (k : Nat) (c : Code), Instr.rds ≠ .wrt k c) ∧ (∀ (k : Nat) (v : Byte), Instr.rds ≠ .wrb k v)
      ∧ (∀ k : Nat, Instr.rds ≠ .rdt k) ∧ (∀ k : Nat, Instr.rds ≠ .rdb k) :=
  ⟨rfl, rfl, rfl, rfl, by simp, by simp, by simp, by simp⟩
theorem witness_LowCanaryBitsDecideNothing :
    decoded.inbox = [] ∧ 0x00 / 2 ^ 7 = decoded.canary / 2 ^ 7 ∧ ∃ t, step decoded = .next t := ⟨rfl, by decide, _, rfl⟩
theorem witness_HostCannotDisturbARunningCall :
    { decoding with inbox := [.host (.port .readStatus)] }.status.busy = true
      ∧ HostItem.port .readStatus ≠ .port .reset
      ∧ ∃ t, step { decoding with inbox := [.host (.port .readStatus)] } = .next t := ⟨rfl, by decide, _, rfl⟩
theorem witness_StepKeepsTheInvariant : decoding.Inv ∧ ∃ t, step decoding = .next t := ⟨decoding_inv, _, rfl⟩
theorem witness_RunningCallEndsAfterItsBlocks :
    decoding.Inv ∧ decoding.status.busy = true ∧ decoding.inbox = [] := ⟨decoding_inv, rfl, rfl⟩
theorem witness_DecodeStepsComputeDecodeCall :
    (waiting (commandWord false 5)).Inv ∧ (waiting (commandWord false 5)).status.busy = false
      ∧ decodeCall (waiting 5).build ((List.range 5).map (waiting 5).readText) = .ok [0x86#8, 0x4F#8, 0xD2#8, 0x6F#8]
      ∧ decodeCall (waiting 4).build ((List.range 4).map (waiting 4).readText) = .err .length :=
  ⟨waiting_inv _, rfl, by decide, by decide⟩
-- the character clause (the source's "0000 ") and the capacity clause, at the least count above MAX_BLOCKS = 4
theorem witness_DecodeStepsComputeDecodeCall_failures :
    (withText (waiting (commandWord false 5)) [0x30, 0x30, 0x30, 0x30, 0x20]).Inv
      ∧ decodeCall (waiting 5).build ((List.range 5).map
          (withText (waiting (commandWord false 5)) [0x30, 0x30, 0x30, 0x30, 0x20]).readText) = .err .character
      ∧ (waiting (commandWord false 25)).Inv
      ∧ decodeCall (waiting 25).build ((List.range 25).map (waiting (commandWord false 25)).readText) = .err .capacity :=
  ⟨{ waiting_inv (commandWord false 5) with buffers := by decide }, by decide, waiting_inv _, rfl⟩
theorem witness_EncodeStepsComputeEncodeCall :
    (waiting (commandWord true 4)).Inv ∧ (waiting (commandWord true 4)).status.busy = false
      ∧ encodeCall (waiting 4).build ((List.range 4).map (waiting 4).readByte)
        = .ok [0x48#8, 0x65#8, 0x6C#8, 0x6C#8, 0x6F#8]
      ∧ encodeCall (waiting 3).build ((List.range 3).map (waiting 3).readByte) = .err .length :=
  ⟨waiting_inv _, rfl, by decide, by decide⟩
theorem witness_EncodeStepsComputeEncodeCall_capacity :
    (waiting (commandWord true 20)).Inv
      ∧ encodeCall (waiting 20).build ((List.range 20).map (waiting (commandWord true 20)).readByte) = .err .capacity :=
  ⟨waiting_inv _, rfl⟩
theorem witness_CallOutputLengths :
    decodeCall wide [0x30, 0x30, 0x30, 0x30, 0x30] = .ok [0, 0, 0, 0]
      ∧ encodeCall wide [0, 0, 0, 0] = .ok [0x30, 0x30, 0x30, 0x30, 0x30] := by decide
theorem witness_DecodeOfEncodeIsTheInput :
    wide.ok = true ∧ [0#8, 0#8, 0#8, 1#8].length % 4 = 0 ∧ [0#8, 0#8, 0#8, 1#8].length ≤ 4 * wide.maxBlocks := by decide
-- V17: a non-canonical group
theorem witness_EncodeOfDecodeIsTheInputIffCanonical :
    decodeCall wide [0x25, 0x6E, 0x53, 0x63, 0x31] = .ok [0, 0, 0, 0]
      ∧ canonicalText wide [0x25, 0x6E, 0x53, 0x63, 0x31] = false ∧ canonicalText wide [0x25, 0x6E, 0x53, 0x63, 0x30] = true := by
  decide

/-- The inbox of the machine's round trip: one block encoded and decoded again. -/
def roundTrip : State :=
  { waiting 0 with inbox := [.host (.cmd (commandWord true 4)), .engine, .engine, .host (.cmd (commandWord false 5))] }

theorem witness_MachineRoundTrip :
    roundTrip.Inv ∧ roundTrip.status.busy = false ∧ (4 : BitVec 31).toNat % 4 = 0
      ∧ (4 : BitVec 31).toNat ≤ 4 * roundTrip.build.maxBlocks ∧ (5 : BitVec 31).toNat = 5 * ((4 : BitVec 31).toNat / 4)
      ∧ roundTrip.inbox = .host (.cmd (commandWord true 4)) ::
          (List.replicate ((4 : BitVec 31).toNat / 4 + 1) .engine ++ [.host (.cmd (commandWord false 5))]) :=
  ⟨{ waiting_inv 0 with }, rfl, by decide, by decide, by decide, rfl⟩

/-- The reset state with a host program waiting. -/
def programmed (ts : List Turn) : State := { State.reset with inbox := ts }

theorem programmed_inv (ts : List Turn) : (programmed ts).Inv := { reset_inv with }

theorem test_ldt : ldt [0x48, 0x65] = [.host (.port (.writeText 0 0x48)), .host (.port (.writeText 1 0x65))] := by decide
theorem witness_DecodeProgramGivesDecodeCall :
    (programmed (decodeProgram [0x30, 0x30, 0x30, 0x30, 0x20])).Inv
      ∧ (∀ c ∈ [0x30, 0x30, 0x30, 0x30, 0x20], c < 2 ^ Config.defaultParams.charW)
      ∧ decodeCall Config.defaultParams [0x30, 0x30, 0x30, 0x30, 0x20] = .err .character
      ∧ decodeCall Config.defaultParams [0x30, 0x30, 0x30, 0x30, 0x31] = .ok [0, 0, 0, 1] :=
  ⟨programmed_inv _, by decide, by decide, by decide⟩
theorem witness_EncodeProgramGivesEncodeCall :
    (programmed (encodeProgram [0, 0, 0, 1])).Inv ∧ (programmed (encodeProgram [0, 0, 0, 1])).status.busy = false
      ∧ encodeCall Config.defaultParams [0, 0, 0, 1] = .ok [0x30, 0x30, 0x30, 0x30, 0x31] :=
  ⟨programmed_inv _, rfl, by decide⟩

end Sys2Proof.Tests
end

section
/-! PROOFS. The host's port while it reaches no unit: the engine is busy (42_host_interface.md R114), or the index is at
or above the capacity (20_memory.md R37). -/

namespace Sys2Proof.Machine

theorem exec_wrt (i : Nat) (c : Code) (s : State) : exec (.wrt i c) s = execWrt i c s := rfl
theorem exec_wrb (i : Nat) (v : Byte) (s : State) : exec (.wrb i v) s = execWrb i v s := rfl
theorem exec_rdt (i : Nat) (s : State) : exec (.rdt i) s = execRdt i s := rfl
theorem exec_rdb (i : Nat) (s : State) : exec (.rdb i) s = execRdb i s := rfl

/-- The guard that the four buffer operations share fails when the engine is busy, and when the index is too large. -/
theorem not_portOpen {busy : Bool} {i cap : Nat} (h : busy = true ∨ cap ≤ i) :
    ¬ (!busy && decide (i < cap)) = true := by
  rcases h with hbusy | hcap
  · simp [hbusy]
  · simp [Nat.not_lt.mpr hcap]

theorem exec_wrt_of_unreachable {s : State} {i : Nat} (h : s.status.busy = true ∨ s.build.textCap ≤ i) (c : Code) :
    exec (.wrt i c) s = .next s := by
  rw [exec_wrt, execWrt, if_neg (not_portOpen h)]

theorem exec_wrb_of_unreachable {s : State} {i : Nat} (h : s.status.busy = true ∨ s.build.binCap ≤ i) (v : Byte) :
    exec (.wrb i v) s = .next s := by
  rw [exec_wrb, execWrb, if_neg (not_portOpen h)]

theorem exec_rdt_of_unreachable {s : State} {i : Nat} (h : s.status.busy = true ∨ s.build.textCap ≤ i) :
    exec (.rdt i) s = .next { s with reply := .code s.anyCode, draws := s.draws + 1 } := by
  rw [exec_rdt, execRdt, if_neg (not_portOpen h)]
  rfl

theorem exec_rdb_of_unreachable {s : State} {i : Nat} (h : s.status.busy = true ∨ s.build.binCap ≤ i) :
    exec (.rdb i) s = .next { s with reply := .byte s.anyByte, draws := s.draws + 1 } := by
  rw [exec_rdb, execRdb, if_neg (not_portOpen h)]
  rfl

/-- Settles O20: at or above the capacity a write leaves the state, and a read answers with one fresh draw. -/
theorem indexOutOfRangeReachesNoUnit : Obligations.IndexOutOfRangeReachesNoUnit := by
  intro s i
  constructor
  · intro hcap
    have h : s.status.busy = true ∨ s.build.textCap ≤ i := .inr hcap
    exact ⟨exec_wrt_of_unreachable h, _, _, exec_rdt_of_unreachable h⟩
  · intro hcap
    have h : s.status.busy = true ∨ s.build.binCap ≤ i := .inr hcap
    exact ⟨exec_wrb_of_unreachable h, _, _, exec_rdb_of_unreachable h⟩

end Sys2Proof.Machine
end

section
/-! PROOFS. The two encodings of 30_encoding.md: a command word is a direction and a length (R59), and the selector's bits
are BUSY, DIR and LAST (R60). -/

namespace Sys2Proof.Machine

theorem exec_dec (n : BitVec 31) (s : State) : exec (.dec n) s = .next (start (commandWord false n) s) := rfl
theorem exec_enc (n : BitVec 31) (s : State) : exec (.enc n) s = .next (start (commandWord true n) s) := rfl

/-- The first bit of a command word is the bit of weight 2^31. -/
theorem cmdDir_eq_decide (w : Word) : cmdDir w = decide (2 ^ 31 ≤ w.toNat) :=
  (BitVec.msb_eq_getLsbD_last w).symm.trans (BitVec.msb_eq_decide w)

/-- Every 32-bit word is the command word of its two fields. -/
theorem commandWord_fields (w : Word) : commandWord (cmdDir w) (w.extractLsb' 0 31) = w := by
  have hw := w.isLt
  apply BitVec.eq_of_toNat_eq
  simp only [commandWord_toNat, cmdDir_eq_decide, decide_eq_true_eq, BitVec.extractLsb'_toNat, Nat.shiftRight_zero]
  split <;> omega

theorem decode_commandWord (dir : Bool) (n : BitVec 31) :
    decode (.host (.cmd (commandWord dir n))) = .ok (if dir then .enc n else .dec n) := by
  have hdir : (commandWord dir n).getLsbD 31 = dir := cmdDir_commandWord dir n
  simp only [decode, decodeHost, decodeCmd, hdir, commandWord_length]

/-- START writes its word to CMD on each of its paths from an idle state (42_host_interface.md R110). -/
theorem start_cmd_of_idle {s : State} (hidle : s.status.busy = false) (w : Word) : (start w s).cmd = w := by
  rcases start_cases w s with ⟨hbusy, -⟩ | ⟨-, ⟨-, h⟩ | ⟨-, -, h⟩ | ⟨-, -, h⟩⟩
  · simp [hidle] at hbusy
  · rw [h]
  · rw [h]
  · rw [h]

/-- Settles O2: every word is the command word of a direction and a length, and bit 31 is the direction. -/
theorem commandWordSelectsByBit31 : Obligations.CommandWordSelectsByBit31 := by
  intro w
  generalize hdir : cmdDir w = dir
  generalize hlen : w.extractLsb' 0 31 = n
  have hw : commandWord dir n = w := hdir ▸ hlen ▸ commandWord_fields w
  have hn := n.isLt
  subst hw
  rw [commandWord_toNat]
  cases dir with
  | false =>
    refine ⟨fun _ => ⟨n, by simp, decode_commandWord false n, fun s hidle => ?_⟩, fun h => ?_⟩
    · exact ⟨_, exec_dec n s, start_cmd_of_idle hidle _⟩
    · rw [if_neg Bool.false_ne_true] at h
      omega
  | true =>
    refine ⟨fun h => ?_, fun _ => ⟨n, by simp, decode_commandWord true n, fun s hidle => ?_⟩⟩
    · rw [if_pos rfl] at h
      omega
    · exact ⟨_, exec_enc n s, start_cmd_of_idle hidle _⟩

/-- SEL by the values of its three bits. -/
theorem State.sel_eq {s : State} {busy dir last : Bool} (hbusy : s.status.busy = busy) (hdir : cmdDir s.cmd = dir)
    (hlast : decide (s.blk = s.nblk) = last) :
    s.sel = BitVec.ofBool busy ++ BitVec.ofBool dir ++ BitVec.ofBool last := by
  rw [State.sel, hbusy, hdir, hlast]

/-- The first bit of SEL is BUSY. -/
theorem State.sel_getLsbD_two (s : State) : s.sel.getLsbD 2 = s.status.busy := by
  rw [State.sel]
  generalize s.status.busy = busy, cmdDir s.cmd = dir, decide (s.blk = s.nblk) = last
  revert busy dir last
  decide

/-- SEL = 0xx selects no step. -/
theorem decodeSel_of_idle : ∀ w : BitVec 3, w.getLsbD 2 = false → decodeSel w = .error (.noStepSelected w) := by
  decide

/-- No engine step is enabled while the engine is idle. -/
theorem State.count_enabled_of_idle {s : State} (hidle : s.status.busy = false) :
    [s.decblkEnabled, s.decfinEnabled, s.encblkEnabled, s.encfinEnabled].count true = 0 := by
  simp [State.decblkEnabled, State.decfinEnabled, State.encblkEnabled, State.encfinEnabled, hidle]

/-- A block is left or none is, so of the two steps of the call's direction one is enabled. -/
theorem State.count_enabled_of_busy {s : State} (hbusy : s.status.busy = true) (hblk : s.blk ≤ s.nblk) :
    [s.decblkEnabled, s.decfinEnabled, s.encblkEnabled, s.encfinEnabled].count true = 1 := by
  simp only [State.decblkEnabled, State.decfinEnabled, State.encblkEnabled, State.encfinEnabled, hbusy, Bool.true_and]
  rcases Nat.lt_or_eq_of_le hblk with hleft | hlast
  · cases cmdDir s.cmd <;> simp [hleft, hleft.ne]
  · cases cmdDir s.cmd <;> simp [hlast]

/-- Settles O5: SEL is written out from its three bits in each case, and BLK <= NBLK makes LAST decide between the block
step and the final one. -/
theorem selectorSelectsTheEnabledStep : Obligations.SelectorSelectsTheEnabledStep := by
  intro s hblk
  refine ⟨fun hidle => ?_, fun hbusy hdir hleft => ?_, fun hbusy hdir hlast => ?_, fun hbusy hdir hleft => ?_,
    fun hbusy hdir hlast => ?_, ?_⟩
  · have hbit : s.sel.getLsbD 2 = false := s.sel_getLsbD_two.trans hidle
    exact ⟨hbit, decodeSel_of_idle s.sel hbit⟩
  · have hsel : s.sel = 0b100#3 := State.sel_eq hbusy hdir (decide_eq_false hleft.ne)
    exact ⟨hsel, hsel ▸ rfl, by simp [State.decblkEnabled, hbusy, hdir, hleft]⟩
  · have hsel : s.sel = 0b101#3 := State.sel_eq hbusy hdir (decide_eq_true hlast)
    exact ⟨hsel, hsel ▸ rfl, by simp [State.decfinEnabled, hbusy, hdir, hlast]⟩
  · have hsel : s.sel = 0b110#3 := State.sel_eq hbusy hdir (decide_eq_false hleft.ne)
    exact ⟨hsel, hsel ▸ rfl, by simp [State.encblkEnabled, hbusy, hdir, hleft]⟩
  · have hsel : s.sel = 0b111#3 := State.sel_eq hbusy hdir (decide_eq_true hlast)
    exact ⟨hsel, hsel ▸ rfl, by simp [State.encfinEnabled, hbusy, hdir, hlast]⟩
  · cases hbusy : s.status.busy with
    | false => exact State.count_enabled_of_idle hbusy
    | true => exact State.count_enabled_of_busy hbusy hblk

end Sys2Proof.Machine
end

section
/-! PROOFS. The two tables, each the inverse of the other on the alphabet (30_encoding.md R57). -/

namespace Sys2Proof

/-- An encode-table entry is a given code exactly when the alphabet has that code at the digit's position. -/
theorem Params.encLut_eq_setWidth_iff {p : Params} {i : Nat} (hi : i < p.alphabet.length) {a : BitVec 7} :
    p.encLut i = a.setWidth 8 ↔ p.alphabet[i] = a := by
  rw [Params.encLut, List.getD_eq_getElem _ _ hi]
  constructor
  · intro h
    simpa using congrArg (BitVec.setWidth 7) h
  · rintro rfl
    rfl

/-- The codes the encode table lists are the alphabet's. -/
theorem Params.exists_encLut_eq_iff_mem {p : Params} (hp : p.ok = true) (a : BitVec 7) :
    (∃ i : Nat, i < 85 ∧ p.encLut i = a.setWidth 8) ↔ a ∈ p.alphabet := by
  rw [← Params.length_of_ok hp, List.mem_iff_getElem]
  constructor
  · rintro ⟨i, hi, h⟩
    exact ⟨i, hi, (Params.encLut_eq_setWidth_iff hi).mp h⟩
  · rintro ⟨i, hi, h⟩
    exact ⟨i, hi, (Params.encLut_eq_setWidth_iff hi).mpr h⟩

theorem Params.idxOf_lt_of_mem {p : Params} (hp : p.ok = true) {a : BitVec 7} (ha : a ∈ p.alphabet) :
    p.alphabet.idxOf a < 85 :=
  Params.length_of_ok hp ▸ List.idxOf_lt_length_of_mem ha

/-- The entry of an alphabet character, as a number, is its position: a position fits in a byte. -/
theorem Params.decLut_toNat_of_mem {p : Params} (hp : p.ok = true) {a : BitVec 7} (ha : a ∈ p.alphabet) :
    (p.decLut a).toNat = p.alphabet.idxOf a := by
  have := Params.idxOf_lt_of_mem hp ha
  rw [Params.decLut_of_mem ha, BitVec.toNat_ofNat, Nat.mod_eq_of_lt (by omega)]

/-- A decode-table entry is a digit exactly for the alphabet's codes; the sentinel is above every digit. -/
theorem Params.decLut_le_iff_mem {p : Params} (hp : p.ok = true) (a : BitVec 7) :
    (p.decLut a).toNat ≤ 84 ↔ a ∈ p.alphabet := by
  by_cases ha : a ∈ p.alphabet
  · have := Params.idxOf_lt_of_mem hp ha
    simp only [Params.decLut_toNat_of_mem hp ha, ha, iff_true]
    omega
  · simp [Params.decLut_of_not_mem ha, ha, Config.sentinel]

/-- Decoding an encoded digit gives the digit, the alphabet's characters being distinct. -/
theorem Params.decLut_encLut {p : Params} (hp : p.ok = true) {i : Nat} (hi : i < 85) :
    p.decLut ((p.encLut i).setWidth 7) = BitVec.ofNat 8 i := by
  have hlt : i < p.alphabet.length := Params.length_of_ok hp ▸ hi
  have hcode : (p.encLut i).setWidth 7 = p.alphabet[i] := by
    simp [(Params.encLut_eq_setWidth_iff hlt).mpr rfl]
  rw [hcode, Params.decLut_of_mem (List.getElem_mem hlt), (Params.nodup_of_ok hp).idxOf_getElem i hlt]

/-- Encoding the digit of an alphabet character gives the character. -/
theorem Params.encLut_decLut {p : Params} (hp : p.ok = true) {a : BitVec 7} (ha : a ∈ p.alphabet) :
    p.encLut (p.decLut a).toNat = a.setWidth 8 := by
  have hlt := List.idxOf_lt_length_of_mem ha
  rw [Params.decLut_toNat_of_mem hp ha, Params.encLut_eq_setWidth_iff hlt, List.getElem_idxOf hlt]

/-- The encode table lists no code twice: the decode table gives the digit back. -/
theorem Params.encLut_injective {p : Params} (hp : p.ok = true) {i j : Nat} (hi : i < 85) (hj : j < 85)
    (h : p.encLut i = p.encLut j) : i = j := by
  have hdigit : BitVec.ofNat 8 i = BitVec.ofNat 8 j := by
    rw [← Params.decLut_encLut hp hi, ← Params.decLut_encLut hp hj, h]
  have hnat := congrArg BitVec.toNat hdigit
  simp only [BitVec.toNat_ofNat] at hnat
  omega

/-- Settles O9: both tables are the alphabet, read by position and by character. -/
theorem tablesInvertEachOther : Obligations.TablesInvertEachOther := by
  intro p hp
  refine ⟨fun i hi => ⟨?_, Params.decLut_encLut hp hi⟩, fun a hnone => ?_, fun a => ?_, fun a hdigit => ?_,
    fun i j hi hj h => Params.encLut_injective hp hi hj h⟩
  · exact Nat.testBit_lt_two_pow (p.encLut_lt i)
  · have ha : a ∉ p.alphabet := by
      rw [← Params.exists_encLut_eq_iff_mem hp]
      rintro ⟨i, hi, h⟩
      exact hnone i hi h
    exact Params.decLut_of_not_mem ha
  · rw [Params.decLut_le_iff_mem hp, Params.exists_encLut_eq_iff_mem hp]
  · exact Params.encLut_decLut hp ((Params.decLut_le_iff_mem hp a).mp hdigit)

end Sys2Proof
end

section
/-! PROOFS. A binary block is its block value, the most significant byte first (30_encoding.md R51). -/

namespace Sys2Proof.Machine

/-- The four bytes of a block value are the digits of its base-256 numeral. -/
theorem bytesOf_toNat (v : Word) :
    (bytesOf v).b0.toNat = v.toNat / 2 ^ 24 ∧ (bytesOf v).b1.toNat = v.toNat / 2 ^ 16 % 2 ^ 8
      ∧ (bytesOf v).b2.toNat = v.toNat / 2 ^ 8 % 2 ^ 8 ∧ (bytesOf v).b3.toNat = v.toNat % 2 ^ 8 := by
  have hv := v.isLt
  simp only [bytesOf, BitVec.extractLsb'_toNat, Nat.shiftRight_eq_div_pow, true_and]
  omega

/-- Assembling the bytes of a block value gives the value. -/
@[simp] theorem wordOf_bytesOf (v : Word) : wordOf (bytesOf v) = v := by
  obtain ⟨h0, h1, h2, h3⟩ := bytesOf_toNat v
  apply BitVec.eq_of_toNat_eq
  rw [wordOf_toNat, h0, h1, h2, h3]
  omega

/-- Splitting an assembled block value gives its four bytes. -/
@[simp] theorem bytesOf_wordOf (q : ByteQuad Byte) : bytesOf (wordOf q) = q := by
  have hsum := wordOf_toNat q
  obtain ⟨h0, h1, h2, h3⟩ := bytesOf_toNat (wordOf q)
  rcases hq : bytesOf (wordOf q) with ⟨c0, c1, c2, c3⟩
  obtain ⟨b0, b1, b2, b3⟩ := q
  simp only [hq] at h0 h1 h2 h3 hsum
  have e0 : c0 = b0 := by bv_omega
  have e1 : c1 = b1 := by bv_omega
  have e2 : c2 = b2 := by bv_omega
  have e3 : c3 = b3 := by bv_omega
  rw [e0, e1, e2, e3]

/-- Settles O28: assembling is the weighted sum of the bytes, and the bytes are the digits of that sum. -/
theorem binaryBlockIsBigEndian : Obligations.BinaryBlockIsBigEndian :=
  ⟨fun _ _ => rfl, fun q => ⟨wordOf_toNat q, bytesOf_wordOf q⟩, fun v => ⟨wordOf_bytesOf v, rfl, rfl, rfl, rfl⟩⟩

end Sys2Proof.Machine
end

section
/-! PROOFS. The engine's two steps of a decode call: the block step (40_decode.md R78) and the final one (R79). -/

namespace Sys2Proof.Machine

theorem exec_decblk (s : State) : exec .decblk s = execDecblk s := rfl
theorem exec_decfin (s : State) : exec .decfin s = execDecfin s := rfl

theorem State.decblkEnabled_iff (s : State) :
    s.decblkEnabled = true ↔ s.status.busy = true ∧ cmdDir s.cmd = false ∧ s.blk < s.nblk := by
  simp [State.decblkEnabled, and_assoc]

theorem State.decfinEnabled_iff (s : State) :
    s.decfinEnabled = true ↔ s.status.busy = true ∧ cmdDir s.cmd = false ∧ s.blk = s.nblk := by
  simp [State.decfinEnabled, and_assoc]

/-- A binary block written and read back is the block value's four bytes. -/
theorem State.rdBinBlock_wrBinBlock (s : State) (b : Nat) (v : Word) : (s.wrBinBlock b v).rdBinBlock b = bytesOf v := by
  simp [State.rdBinBlock, State.readByte_wrBinBlock, bytesOf]

/-- Writing a binary block reaches none but its own four units. -/
theorem State.readByte_wrBinBlock_of_outside (s : State) {b a : Nat} (v : Word) (h : a < 4 * b ∨ 4 * b + 4 ≤ a) :
    (s.wrBinBlock b v).readByte a = s.readByte a := by
  rw [State.readByte_wrBinBlock, if_neg (by omega), if_neg (by omega), if_neg (by omega), if_neg (by omega)]

/-- The five digits of the text block at BLK, each the table entry of its code (40_decode.md R72). -/
def State.blockDigits (s : State) : CharGroup Byte := (s.rdTextBlock s.blk).map s.build.decLookup

/-- The state an enabled DECBLK leaves (40_decode.md R78). -/
def State.decodeBlock (s : State) : State :=
  let v := blockValue (blockSum s.blockDigits)
  { s.wrBinBlock s.blk v with
    canary := accumulate s.canary (s.rdTextBlock s.blk) s.blockDigits
    dp := { s.dp with c := s.rdTextBlock s.blk, d := s.blockDigits, s := blockSum s.blockDigits, v := v, b := bytesOf v }
    blk := s.blk + 1 }

theorem exec_decblk_of_enabled {s : State} (h : s.decblkEnabled = true) : exec .decblk s = .next s.decodeBlock := by
  rw [exec_decblk, execDecblk, if_pos h]
  rfl

theorem State.rdBinBlock_decodeBlock (s : State) :
    s.decodeBlock.rdBinBlock s.blk = bytesOf (blockValue (blockSum s.blockDigits)) :=
  s.rdBinBlock_wrBinBlock s.blk _

theorem State.readByte_decodeBlock_of_outside (s : State) {a : Nat} (h : a < 4 * s.blk ∨ 4 * s.blk + 4 ≤ a) :
    s.decodeBlock.readByte a = s.readByte a :=
  s.readByte_wrBinBlock_of_outside _ h

/-- Settles O24: the four bytes written are the digits to the base 256 of the block value, which is the radix-85 sum
modulo 2^32; no other unit is written. -/
theorem decblkDecodesOneBlock : Obligations.DecblkDecodesOneBlock := by
  intro s hbusy hdir hleft c d sum v
  have hsum : blockSum s.blockDigits = sum := rfl
  have hvalue : (blockValue sum).toNat = v := BitVec.toNat_ofNat sum 32
  have hquad : s.decodeBlock.rdBinBlock s.blk = bytesOf (blockValue sum) := hsum ▸ s.rdBinBlock_decodeBlock
  obtain ⟨h0, h1, h2, h3⟩ := bytesOf_toNat (blockValue sum)
  rw [hvalue, ← hquad] at h0 h1 h2 h3
  have hen : s.decblkEnabled = true := s.decblkEnabled_iff.mpr ⟨hbusy, hdir, hleft⟩
  exact ⟨s.decodeBlock, exec_decblk_of_enabled hen, rfl, rfl, h0, h1, h2, h3,
    fun a ha => s.readByte_decodeBlock_of_outside ha, fun _ => rfl, rfl, rfl, hsum, hvalue, rfl, hquad.symm⟩

/-- Taint is a set bit of CANARY from bit 7 up (40_decode.md R79). -/
theorem taint_iff_div (x : Nat) : taint x = true ↔ x / 2 ^ 7 ≠ 0 := by
  rw [taint, bne_iff_ne, Nat.shiftRight_eq_div_pow]

theorem exec_decfin_of_clean {s : State} (h : s.decfinEnabled = true) (hclean : ¬ taint s.canary = true) :
    exec .decfin s = .next (succeed (4 * s.nblk) s) := by
  rw [exec_decfin, execDecfin, if_pos h, if_neg hclean]

theorem exec_decfin_of_taint {s : State} (h : s.decfinEnabled = true) (htaint : taint s.canary = true) :
    exec .decfin s = .next (raiseInvalidInput .character (s.scrambleBytes (4 * s.nblk))) := by
  rw [exec_decfin, execDecfin, if_pos h, if_pos htaint]

theorem State.readByte_scrambleBytes_of_le (s : State) {k a : Nat} (h : k ≤ a) :
    (s.scrambleBytes k).readByte a = s.readByte a := by
  rw [State.readByte_scrambleBytes, if_neg (Nat.not_lt.mpr h)]

/-- Settles O25: without taint the call succeeds; with taint the output region is drawn afresh and InvalidInput raised,
neither of which reaches a byte from 4*NBLK on or TBUF. -/
theorem decfinChecksTheCanaryOnce : Obligations.DecfinChecksTheCanaryOnce := by
  intro s hbusy hdir hlast
  have hen : s.decfinEnabled = true := s.decfinEnabled_iff.mpr ⟨hbusy, hdir, hlast⟩
  constructor
  · intro hzero
    exact exec_decfin_of_clean hen fun htaint => (taint_iff_div s.canary).mp htaint hzero
  · intro hbits
    exact ⟨_, exec_decfin_of_taint hen ((taint_iff_div s.canary).mpr hbits), rfl,
      fun a ha => s.readByte_scrambleBytes_of_le ha, fun _ => rfl⟩

end Sys2Proof.Machine
end

section
/-! PROOFS. The engine's two steps of an encode call: the block step (41_encode.md R95) and the final one (R98). -/

namespace Sys2Proof

/-- Five numbers that fit the digit registers are held by them unchanged. -/
theorem CharGroup.map_toNat_map_ofNat {d : CharGroup Nat} (h0 : d.e0 < 256) (h1 : d.e1 < 256) (h2 : d.e2 < 256)
    (h3 : d.e3 < 256) (h4 : d.e4 < 256) : (d.map (BitVec.ofNat 8)).map BitVec.toNat = d := by
  simp [CharGroup.map, Nat.mod_eq_of_lt, h0, h1, h2, h3, h4]

end Sys2Proof

namespace Sys2Proof.Machine

theorem exec_encblk (s : State) : exec .encblk s = execEncblk s := rfl
theorem exec_encfin (s : State) : exec .encfin s = execEncfin s := rfl

theorem State.encblkEnabled_iff (s : State) :
    s.encblkEnabled = true ↔ s.status.busy = true ∧ cmdDir s.cmd = true ∧ s.blk < s.nblk := by
  simp [State.encblkEnabled, and_assoc]

theorem State.encfinEnabled_iff (s : State) :
    s.encfinEnabled = true ↔ s.status.busy = true ∧ cmdDir s.cmd = true ∧ s.blk = s.nblk := by
  simp [State.encfinEnabled, and_assoc]

/-- A text block written and read back is the five codes. -/
theorem State.rdTextBlock_wrTextBlock (s : State) (b : Nat) (g : CharGroup Code) :
    (s.wrTextBlock b g).rdTextBlock b = g := by
  simp [State.rdTextBlock, State.readText_wrTextBlock]

/-- Writing a text block reaches none but its own five units. -/
theorem State.readText_wrTextBlock_of_outside (s : State) {b a : Nat} (g : CharGroup Code)
    (h : a < 5 * b ∨ 5 * b + 5 ≤ a) : (s.wrTextBlock b g).readText a = s.readText a := by
  rw [State.readText_wrTextBlock, if_neg (by omega), if_neg (by omega), if_neg (by omega), if_neg (by omega),
    if_neg (by omega)]

/-- The divide chain with its divisors written out (41_encode.md R93). -/
theorem divideChain_eq (v : Nat) :
    divideChain v = ⟨v / 52200625, v % 52200625 / 614125, v % 52200625 % 614125 / 7225,
      v % 52200625 % 614125 % 7225 / 85, v % 52200625 % 614125 % 7225 % 85⟩ := by
  simp only [divideChain, Config.p4, Config.p3, Config.p2, Config.p1]

/-- The digits of a 32-bit value are digits to the base 85, the first at most 82 (41_encode.md R96). -/
theorem divideChain_le {v : Nat} (hv : v < 2 ^ 32) :
    (divideChain v).e0 ≤ 82 ∧ (divideChain v).e1 ≤ 84 ∧ (divideChain v).e2 ≤ 84 ∧ (divideChain v).e3 ≤ 84
      ∧ (divideChain v).e4 ≤ 84 := by
  simp only [divideChain_eq]
  omega

/-- The digit registers hold the digits of a 32-bit value. -/
theorem divideChain_map_toNat {v : Nat} (hv : v < 2 ^ 32) :
    ((divideChain v).map (BitVec.ofNat 8)).map BitVec.toNat = divideChain v := by
  obtain ⟨h0, h1, h2, h3, h4⟩ := divideChain_le hv
  exact CharGroup.map_toNat_map_ofNat (by omega) (by omega) (by omega) (by omega) (by omega)

/-- The value of the binary block at BLK (41_encode.md R92). -/
def State.encodeValue (s : State) : Word := wordOf (s.rdBinBlock s.blk)

/-- The five characters of the block at BLK: the table entries of its digits (41_encode.md R94). -/
def State.encodeChars (s : State) : CharGroup Code :=
  (divideChain s.encodeValue.toNat).map fun k => (s.build.encLut k).toNat

/-- The state an enabled ENCBLK leaves (41_encode.md R95). -/
def State.encodeBlock (s : State) : State :=
  let d := divideChain s.encodeValue.toNat
  { s.wrTextBlock s.blk s.encodeChars with
    dp := { s.dp with
      b := s.rdBinBlock s.blk, v := s.encodeValue, d := d.map (BitVec.ofNat 8), rm := BitVec.ofNat 32 d.e4
      c := s.encodeChars }
    blk := s.blk + 1 }

theorem exec_encblk_of_enabled {s : State} (h : s.encblkEnabled = true) : exec .encblk s = .next s.encodeBlock := by
  rw [exec_encblk, execEncblk, if_pos h]
  rfl

theorem State.rdTextBlock_encodeBlock (s : State) : s.encodeBlock.rdTextBlock s.blk = s.encodeChars :=
  s.rdTextBlock_wrTextBlock s.blk _

theorem State.readText_encodeBlock_of_outside (s : State) {a : Nat} (h : a < 5 * s.blk ∨ 5 * s.blk + 5 ≤ a) :
    s.encodeBlock.readText a = s.readText a :=
  s.readText_wrTextBlock_of_outside _ h

theorem State.encodeBlock_digits (s : State) :
    s.encodeBlock.dp.d.map BitVec.toNat = divideChain s.encodeValue.toNat :=
  divideChain_map_toNat s.encodeValue.isLt

/-- Rm ends as the last digit, which 32 bits hold (41_encode.md R93). -/
theorem State.encodeBlock_rm (s : State) : s.encodeBlock.dp.rm.toNat = (divideChain s.encodeValue.toNat).e4 := by
  obtain ⟨-, -, -, -, h4⟩ := divideChain_le s.encodeValue.isLt
  rw [State.encodeBlock, BitVec.toNat_ofNat, Nat.mod_eq_of_lt (by omega)]

/-- Settles O26: the block value is the weighted sum of the four bytes read, the divide chain gives its digits, each fits
its register, and the group written is the digits' table entries; no other unit is written. -/
theorem encblkEncodesOneBlock : Obligations.EncblkEncodesOneBlock := by
  intro s hbusy hdir hleft b v r1 r2 r3 d c
  have hvalue : s.encodeValue.toNat = v := wordOf_toNat (s.rdBinBlock s.blk)
  have hdigits : divideChain s.encodeValue.toNat = ⟨d 0, d 1, d 2, d 3, d 4⟩ := by
    rw [hvalue, divideChain_eq]
    simp [d, r1, r2, r3]
  have hrm : s.encodeBlock.dp.rm.toNat = r3 % 85 := by rw [s.encodeBlock_rm, hvalue, divideChain_eq]
  have hchars : s.encodeChars = ⟨c 0, c 1, c 2, c 3, c 4⟩ := by
    rw [State.encodeChars, hdigits]
    rfl
  have hgroup : s.encodeBlock.rdTextBlock s.blk = ⟨c 0, c 1, c 2, c 3, c 4⟩ := s.rdTextBlock_encodeBlock.trans hchars
  have hunits : ∀ j : Nat, j < 5 → s.encodeBlock.readText (5 * s.blk + j) = c j := by
    obtain ⟨h0, h1, h2, h3, h4⟩ := CharGroup.mk.inj hgroup
    intro j hj
    interval_cases j
    exacts [h0, h1, h2, h3, h4]
  have hen : s.encblkEnabled = true := s.encblkEnabled_iff.mpr ⟨hbusy, hdir, hleft⟩
  exact ⟨s.encodeBlock, exec_encblk_of_enabled hen, rfl, hunits, fun a ha => s.readText_encodeBlock_of_outside ha,
    fun _ => rfl, rfl, rfl, rfl, rfl, hvalue, s.encodeBlock_digits.trans hdigits, hrm, hchars, rfl⟩

theorem exec_encfin_of_enabled {s : State} (h : s.encfinEnabled = true) :
    exec .encfin s = .next (succeed (5 * s.nblk) s) := by
  rw [exec_encfin, execEncfin, if_pos h]

/-- The length of a text of NBLK blocks fits OLEN (10_state.md R16, R20). -/
theorem State.Inv.textLength_lt {s : State} (h : s.Inv) : 5 * s.nblk < 2 ^ 32 := by
  have hnblk := h.nblk
  obtain ⟨-, hmax⟩ := Params.maxBlocks_of_ok h.build
  omega

/-- Settles O27: the enabled step ends the call with success; the capacity of an admissible build keeps 5*NBLK below 2^31,
and the invariant says that an encode call has left CANARY at 0. -/
theorem encfinEndsTheCall : Obligations.EncfinEndsTheCall := by
  intro s hbusy hdir hlast
  have hen : s.encfinEnabled = true := s.encfinEnabled_iff.mpr ⟨hbusy, hdir, hlast⟩
  refine ⟨exec_encfin_of_enabled hen, fun hinv => ⟨hinv.canaryEncode hdir, ?_⟩⟩
  rw [BitVec.toNat_ofNat, Nat.mod_eq_of_lt hinv.textLength_lt]

end Sys2Proof.Machine
end

section
/-! PROOFS. The host's operations of 42_host_interface.md: the two writes (R106, R107), START (R110), the reads of the three
registers (R111 to R113), and all of them while a call runs (R114). -/

namespace Sys2Proof.Machine

/-- A buffer operation reaches no unit exactly when it is not one of an idle engine with an index inside the buffer. -/
theorem unreachable_iff {busy : Bool} {i cap : Nat} :
    (busy = true ∨ cap ≤ i) ↔ ¬ (busy = false ∧ i < cap) := by
  rw [not_and_or, Bool.not_eq_false, not_lt]

/-- The guard that the four buffer operations share holds when the engine is idle and the index inside the buffer. -/
theorem portOpen {busy : Bool} {i cap : Nat} (hopen : busy = false ∧ i < cap) :
    (!busy && decide (i < cap)) = true := by
  obtain ⟨hidle, hi⟩ := hopen
  simp [hidle, hi]

theorem exec_wrt_of_reachable {s : State} {i : Nat} (hopen : s.status.busy = false ∧ i < s.build.textCap) (c : Code) :
    exec (.wrt i c) s = .next (s.writeText i (c % 2 ^ s.build.charW)) := by
  rw [exec_wrt, execWrt, if_pos (portOpen hopen)]

theorem exec_wrb_of_reachable {s : State} {i : Nat} (hopen : s.status.busy = false ∧ i < s.build.binCap) (v : Byte) :
    exec (.wrb i v) s = .next (s.writeByte i v) := by
  rw [exec_wrb, execWrb, if_pos (portOpen hopen)]

/-- Settles O11: idle and in range the one unit is listed anew, with a code that CHAR_W bits hold whole; else the state
stays. -/
theorem wrtWritesItsUnit : Obligations.WrtWritesItsUnit := by
  intro s i c hc
  by_cases hopen : s.status.busy = false ∧ i < s.build.textCap
  · refine ⟨s.writeText i c, ?_, rfl, fun _ _ => ?_, fun j hj => ?_, fun j => s.readByte_writeText i j c,
      fun hclosed => ?_⟩
    · rw [exec_wrt_of_reachable hopen, Nat.mod_eq_of_lt hc]
    · rw [State.readText_writeText, if_pos rfl]
    · rw [State.readText_writeText, if_neg hj]
    · exact absurd hopen (unreachable_iff.mp hclosed)
  · exact ⟨s, exec_wrt_of_unreachable (unreachable_iff.mpr hopen) c, rfl, fun hidle hi => absurd ⟨hidle, hi⟩ hopen,
      fun _ _ => rfl, fun _ => rfl, fun _ => rfl⟩

/-- Settles O13: idle and in range the one byte is listed anew; else the state stays. -/
theorem wrbWritesItsByte : Obligations.WrbWritesItsByte := by
  intro s i v
  by_cases hopen : s.status.busy = false ∧ i < s.build.binCap
  · refine ⟨s.writeByte i v, exec_wrb_of_reachable hopen v, rfl, fun _ _ => ?_, fun j hj => ?_,
      fun j => s.readText_writeByte i j v, fun hclosed => ?_⟩
    · rw [State.readByte_writeByte, if_pos rfl]
    · rw [State.readByte_writeByte, if_neg hj]
    · exact absurd hopen (unreachable_iff.mp hclosed)
  · exact ⟨s, exec_wrb_of_unreachable (unreachable_iff.mpr hopen) v, rfl, fun hidle hi => absurd ⟨hidle, hi⟩ hopen,
      fun _ _ => rfl, fun _ => rfl, fun _ => rfl⟩

theorem start_of_busy {s : State} (hbusy : s.status.busy = true) (w : Word) : start w s = s := by
  simpa [hbusy] using start_cases w s

theorem start_of_misaligned {s : State} {w : Word} (hidle : s.status.busy = false)
    (hlen : cmdLen w % unitOf (cmdDir w) ≠ 0) :
    start w s =
      { s with cmd := w, olen := 0, canary := 0, blk := 0, nblk := 0, status := Status.failed .length } := by
  simpa [hidle, hlen] using start_cases w s

theorem start_of_overCapacity {s : State} {w : Word} (hidle : s.status.busy = false)
    (hlen : cmdLen w % unitOf (cmdDir w) = 0) (hcap : s.build.maxBlocks < cmdLen w / unitOf (cmdDir w)) :
    start w s =
      { s with cmd := w, olen := 0, canary := 0, blk := 0, nblk := 0, status := Status.failed .capacity } := by
  simpa [hidle, hlen, hcap, hcap.not_ge] using start_cases w s

theorem start_of_fitting {s : State} {w : Word} (hidle : s.status.busy = false)
    (hlen : cmdLen w % unitOf (cmdDir w) = 0) (hcap : cmdLen w / unitOf (cmdDir w) ≤ s.build.maxBlocks) :
    start w s =
      { s with
        cmd := w, olen := 0, canary := 0, blk := 0, nblk := cmdLen w / unitOf (cmdDir w), status := Status.running } := by
  simpa [hidle, hlen, hcap, hcap.not_gt] using start_cases w s

/-- A word whose number is made of a direction and a length is their command word. -/
theorem eq_commandWord_of_toNat {w : Word} {dir : Bool} {n : BitVec 31}
    (h : w.toNat = (if dir then 2 ^ 31 else 0) + n.toNat) : w = commandWord dir n :=
  BitVec.eq_of_toNat_eq (h.trans (commandWord_toNat dir n).symm)

/-- The four cases of START with a word of `n` units in blocks of `unit` (42_host_interface.md R110), for either
direction. -/
theorem exec_start {i : Instr} {w : Word} {n unit : Nat} {s : State} (hexec : exec i s = .next (start w s))
    (hn : cmdLen w = n) (hunit : unitOf (cmdDir w) = unit) :
    (s.status.busy = true → exec i s = .next s)
    ∧ (s.status.busy = false → n % unit ≠ 0 → exec i s = .next { s with
        cmd := w, olen := 0, canary := 0, blk := 0, nblk := 0, status := Status.failed .length })
    ∧ (s.status.busy = false → n % unit = 0 → s.build.maxBlocks < n / unit → exec i s = .next { s with
        cmd := w, olen := 0, canary := 0, blk := 0, nblk := 0, status := Status.failed .capacity })
    ∧ (s.status.busy = false → n % unit = 0 → n / unit ≤ s.build.maxBlocks → exec i s = .next { s with
        cmd := w, olen := 0, canary := 0, blk := 0, nblk := n / unit, status := Status.running }) := by
  subst hn hunit
  refine ⟨fun hbusy => ?_, fun hidle hlen => ?_, fun hidle hlen hcap => ?_, fun hidle hlen hcap => ?_⟩
  · rw [hexec, start_of_busy hbusy]
  · rw [hexec, start_of_misaligned hidle hlen]
  · rw [hexec, start_of_overCapacity hidle hlen hcap]
  · rw [hexec, start_of_fitting hidle hlen hcap]

/-- Settles O18: the word is the command word of its direction and length, and a block is 5 units to decode and 4 to
encode. -/
theorem startChecksTheLengthThenBegins : Obligations.StartChecksTheLengthThenBegins := by
  constructor
  · intro s n w hw
    obtain rfl : w = commandWord false n := eq_commandWord_of_toNat (by simpa using hw)
    exact exec_start (exec_dec n s) (cmdLen_commandWord false n) (congrArg unitOf (cmdDir_commandWord false n))
  · intro s n w hw
    obtain rfl : w = commandWord true n := eq_commandWord_of_toNat (by simpa using hw)
    exact exec_start (exec_enc n s) (cmdLen_commandWord true n) (congrArg unitOf (cmdDir_commandWord true n))

theorem exec_rds (s : State) : exec .rds s = .next { s with reply := .status s.status.byte } := rfl
theorem exec_rdl (s : State) : exec .rdl s = .next { s with reply := .length s.olen } := rfl
theorem exec_rdc (s : State) : exec .rdc s = .next { s with reply := .command s.cmd } := rfl
theorem exec_reset (s : State) : exec .reset s = .next (resetState s) := rfl

/-- OLEN is not 0 only after a success, and a success leaves BUSY at 0 (10_state.md R19, R20). -/
theorem State.Inv.olen_of_busy {s : State} (h : s.Inv) (hbusy : s.status.busy = true) : s.olen = 0 := by
  apply h.olen
  intro hdone
  rw [hdone] at hbusy
  exact Bool.false_ne_true hbusy

/-- Settles O16: the three reads answer with their register, and the invariant keeps OLEN at 0 during a call. -/
theorem rdsRdlRdcReturnTheirRegisters : Obligations.RdsRdlRdcReturnTheirRegisters := fun s =>
  ⟨exec_rds s, exec_rdl s, exec_rdc s, State.Inv.olen_of_busy⟩

/-- Settles O19: a busy engine lets no buffer operation reach a unit and ignores START; the reads of the registers and RESET
do not ask whether it is busy. -/
theorem busyHostAccesses : Obligations.BusyHostAccesses := by
  intro s hbusy
  refine ⟨fun _ => exec_wrt_of_unreachable (.inl hbusy), fun _ => exec_wrb_of_unreachable (.inl hbusy),
    fun n => ⟨?_, ?_⟩,
    fun _ => ⟨_, _, exec_rdt_of_unreachable (.inl hbusy)⟩, fun _ => ⟨_, _, exec_rdb_of_unreachable (.inl hbusy)⟩,
    exec_rds s, exec_rdl s, exec_rdc s, resetState s, exec_reset s, rfl, rfl, rfl⟩
  · rw [exec_dec, start_of_busy hbusy]
  · rw [exec_enc, start_of_busy hbusy]

end Sys2Proof.Machine
end

section
/-! PROOFS. The trap entry of 60_exceptions.md: the byte of a failed STATUS (R126), and what raising InvalidInput leaves
(R129). -/

namespace Sys2Proof.Machine

/-- The byte of a failed STATUS is the cause's code in bits 4:3, over ERR and DONE set and BUSY clear. -/
theorem Status.byte_failed_toNat (k : Cause) : (Status.failed k).byte.toNat = k.code.toNat * 8 + 0b110 := by
  cases k <;> rfl

/-- Each engine step by name is disabled while the engine is idle: none of the four counts as enabled. -/
theorem State.enabled_eq_false_of_idle {s : State} (hidle : s.status.busy = false) :
    s.decblkEnabled = false ∧ s.decfinEnabled = false ∧ s.encblkEnabled = false ∧ s.encfinEnabled = false := by
  simpa [List.count_eq_zero] using State.count_enabled_of_idle hidle

/-- Settles O23: the entry writes a failed STATUS and OLEN alone, the byte of that STATUS carries the cause's code, and with
BUSY clear no step is enabled. -/
theorem invalidInputEntry : Obligations.InvalidInputEntry := by
  intro k s
  have hidle : (raiseInvalidInput k s).status.busy = false := rfl
  exact ⟨rfl, Status.byte_failed_toNat .length, Status.byte_failed_toNat .character, Status.byte_failed_toNat .capacity,
    State.enabled_eq_false_of_idle hidle⟩

end Sys2Proof.Machine
end

section
/-! PROOFS. The RESET operation of 70_reset_and_hazards.md (R145, R146). -/

namespace Sys2Proof.Machine

/-- The byte a host reads of the idle STATUS is the reset value of R25. -/
@[simp] theorem Status.byte_idle : Status.idle.byte = 0x00#8 := by decide

/-- Settles O21: RESET does not ask whether a call runs, it writes each register's reset value and keeps the build, and the
idle STATUS it leaves enables no engine step. -/
theorem resetFromEveryState : Obligations.ResetFromEveryState := by
  intro s
  have hidle : (resetState s).status.busy = false := by rw [resetState_status]; rfl
  exact ⟨resetState s, exec_reset s, resetState_cmd s, resetState_status s, Status.byte_idle, resetState_olen s,
    resetState_canary s, resetState_blk s, resetState_nblk s, resetState_build s, State.enabled_eq_false_of_idle hidle⟩

end Sys2Proof.Machine
end

section
/-! PROOFS. The decoder and the encoder as inverses of each other (30_encoding.md R59, R60, R65), and the SYM rows of
the opcode table (R55, R56). -/

namespace Sys2Proof

/-- An instruction is an operation by name or a row of the symbol table. -/
theorem Instr.casesByFormat {P : Instr → Prop} (dec : ∀ n, P (.dec n)) (enc : ∀ n, P (.enc n)) (decblk : P .decblk)
    (decfin : P .decfin) (encblk : P .encblk) (encfin : P .encfin) (wrt : ∀ k c, P (.wrt k c))
    (wrb : ∀ k v, P (.wrb k v)) (rdt : ∀ k, P (.rdt k)) (rdb : ∀ k, P (.rdb k)) (rds : P .rds) (rdl : P .rdl)
    (rdc : P .rdc) (reset : P .reset) (sym : ∀ i : Instr, i.format = .sym → P i) (i : Instr) : P i := by
  cases i with
  | dec n => exact dec n
  | enc n => exact enc n
  | decblk => exact decblk
  | decfin => exact decfin
  | encblk => exact encblk
  | encfin => exact encfin
  | wrt k c => exact wrt k c
  | wrb k v => exact wrb k v
  | rdt k => exact rdt k
  | rdb k => exact rdb k
  | rds => exact rds
  | rdl => exact rdl
  | rdc => exact rdc
  | reset => exact reset
  | _ => exact sym _ rfl

theorem Item.format_eq_sym_iff (x : Item) : x.format = .sym ↔ ∃ c, x = .host (.sym c) := by
  match x with
  | .host (.cmd _) => simp [Item.format]
  | .host (.port _) => simp [Item.format]
  | .host (.sym c) => simp [Item.format]
  | .sel _ => simp [Item.format]

/-- What a row of the symbol table is: its code is its encoded form and decodes to it. -/
theorem symRows_encode : ∀ e ∈ symRows, encode e.2 = .host (.sym e.1) := by decide
theorem symRows_decodeSym : ∀ e ∈ symRows, decodeSym e.1 = .ok e.2 := by decide
theorem symRows_format : ∀ e ∈ symRows, e.2.format = .sym := by decide

/-- A code decodes to a row only if the symbol table lists it with that row. -/
theorem mem_symRows_of_decodeSym {c : Byte} {i : Instr} (h : decodeSym c = .ok i) : (c, i) ∈ symRows := by
  rw [decodeSym] at h
  split at h
  · obtain ⟨before, after, hrows, -⟩ := List.lookup_eq_some_iff.mp ‹_›
    cases h
    rw [hrows]
    exact List.mem_append_right before List.mem_cons_self
  · cases h

/-- The selectors that select a step are the encoded forms of the four steps. -/
theorem decodeSel_ok {w : BitVec 3} {i : Instr} (h : decodeSel w = .ok i) : i.format = .sel ∧ encode i = .sel w := by
  rw [decodeSel] at h
  split_ifs at h with h0 h1 h2 h3
  · cases h; exact ⟨rfl, h0 ▸ rfl⟩
  · cases h; exact ⟨rfl, h1 ▸ rfl⟩
  · cases h; exact ⟨rfl, h2 ▸ rfl⟩
  · cases h; exact ⟨rfl, h3 ▸ rfl⟩

theorem encode_decodePort (t : PortTx) : encode (decodePort t) = .host (.port t) := by
  cases t <;> rfl

end Sys2Proof

namespace Sys2Proof.Machine

theorem decode_encode (i : Instr) : decode (encode i) = .ok i := by
  cases i with
  | dec n => exact decode_commandWord false n
  | enc n => exact decode_commandWord true n
  | _ => rfl

theorem encode_decodeCmd (w : Word) : encode (decodeCmd w) = .host (.cmd w) := by
  have hfields : encode (decodeCmd w) = .host (.cmd (commandWord (cmdDir w) (w.extractLsb' 0 31))) := by
    rw [decodeCmd, cmdDir]
    cases w.getLsbD 31 <;> rfl
  rw [hfields, commandWord_fields]

theorem encode_of_decode {x : Item} {i : Instr} (h : decode x = .ok i) : encode i = x := by
  match x with
  | .host (.cmd w) => cases h; exact encode_decodeCmd w
  | .host (.port t) => cases h; exact encode_decodePort t
  | .host (.sym c) => exact symRows_encode _ (mem_symRows_of_decodeSym h)
  | .sel w => exact (decodeSel_ok h).2

/-- Settles O3: each form of each format is the encoded form of what it decodes to. -/
theorem decodeAndEncodeAgree : Obligations.DecodeAndEncodeAgree :=
  ⟨decode_encode, fun _ _ h => encode_of_decode h⟩

/-- Settles O1: each word is decoded by evaluation. -/
theorem knownWordsDecode : Obligations.KnownWordsDecode := by
  unfold Obligations.KnownWordsDecode
  decide

/-- Decoding keeps the format. -/
theorem format_of_decode {x : Item} {i : Instr} (h : decode x = .ok i) : i.format = x.format := by
  match x with
  | .host (.cmd w) => cases h; rw [decodeCmd]; split <;> rfl
  | .host (.port t) => cases h; cases t <;> rfl
  | .host (.sym c) => exact symRows_format _ (mem_symRows_of_decodeSym h)
  | .sel w => exact (decodeSel_ok h).1

theorem exists_mem_symRows {i : Instr} (hi : i.format = .sym) : ∃ code : Byte, (code, i) ∈ symRows := by
  have hdecode := decode_encode i
  have hformat : (encode i).format = .sym := (format_of_decode hdecode).symm.trans hi
  obtain ⟨code, hcode⟩ := (Item.format_eq_sym_iff _).mp hformat
  rw [hcode] at hdecode
  exact ⟨code, mem_symRows_of_decodeSym hdecode⟩

/-- The meaning of the row of digit value `k` is the two table reads of the row. -/
theorem exec_symRows : symRows.map (fun e => exec e.2) = symRows.zipIdx.map fun e => readSymbol e.2 e.1.1 := rfl

theorem exec_of_symRow {k : Nat} {code : Byte} {i : Instr} (h : symRows[k]? = some (code, i)) :
    exec i = readSymbol k code := by
  have hk := congrArg (fun meanings => meanings[k]?) exec_symRows
  simpa [h] using hk

theorem exec_of_sym {i : Instr} (hi : i.format = .sym) : ∃ (k : Nat) (code : Byte), exec i = readSymbol k code := by
  obtain ⟨code, hmem⟩ := exists_mem_symRows hi
  obtain ⟨k, hk⟩ := List.mem_iff_getElem?.mp hmem
  exact ⟨k, code, exec_of_symRow hk⟩

theorem defaultParams_ok : Config.defaultParams.ok = true := by decide

/-- The column of codes of 30_encoding.md R55 is the default alphabet. -/
theorem symRows_codes : symRows.map Prod.fst = Config.defaultAlphabet.map (BitVec.setWidth 8) := by decide

theorem encLut_default {k : Nat} {code : Byte} {i : Instr} (h : symRows[k]? = some (code, i)) :
    Config.defaultParams.encLut k = code := by
  have hk := congrArg (fun codes => codes[k]?) symRows_codes
  simp only [List.getElem?_map, h, Option.map_some] at hk
  obtain ⟨a, ha, hcode⟩ := Option.map_eq_some_iff.mp hk.symm
  rw [Params.encLut, Config.defaultParams, List.getD_eq_getElem?_getD, ha, Option.getD_some, hcode]

theorem decLut_default {k : Nat} {code : Byte} {i : Instr} (h : symRows[k]? = some (code, i)) :
    Config.defaultParams.decLut (BitVec.ofNat 7 code.toNat) = BitVec.ofNat 8 k := by
  obtain ⟨hk, -⟩ := List.getElem?_eq_some_iff.mp h
  rw [BitVec.ofNat_toNat, ← encLut_default h]
  exact Params.decLut_encLut defaultParams_ok hk

/-- Settles O10: each row's meaning is its two table reads, and the default alphabet is the table's column of codes. -/
theorem symbolRowsReadTheirTableEntries : Obligations.SymbolRowsReadTheirTableEntries := by
  refine ⟨fun k code i hrow => ?_, rfl, fun i hi => exists_mem_symRows hi⟩
  have hmem : (code, i) ∈ symRows := List.mem_of_getElem? hrow
  refine ⟨symRows_decodeSym _ hmem, fun s => ?_, ?_⟩
  · rw [exec_of_symRow hrow]
    rfl
  · exact ⟨encLut_default hrow, decLut_default hrow⟩

end Sys2Proof.Machine
end

section
/-! PROOFS. The arithmetic of a block: the radix-85 sum of digits (40_decode.md R74 to R77) and the divide chain
(41_encode.md R93, R96), and the validity of characters against the tables (30_encoding.md R61). -/

namespace Sys2Proof

/-- Five digits to the base 85: the table entries of valid characters (30_encoding.md R52). -/
def CharGroup.areDigits (d : CharGroup Byte) : Prop :=
  d.e0.toNat ≤ 84 ∧ d.e1.toNat ≤ 84 ∧ d.e2.toNat ≤ 84 ∧ d.e3.toNat ≤ 84 ∧ d.e4.toNat ≤ 84

end Sys2Proof

namespace Sys2Proof.Machine

/-- The block sum with its weights written out (40_decode.md R74). -/
theorem blockSum_eq (d : CharGroup Byte) : blockSum d =
    d.e0.toNat * 52200625 + d.e1.toNat * 614125 + d.e2.toNat * 7225 + d.e3.toNat * 85 + d.e4.toNat := rfl

theorem blockSum_le (d : CharGroup Byte) : blockSum d ≤ 13469625555 := by
  have h0 := d.e0.isLt
  have h1 := d.e1.isLt
  have h2 := d.e2.isLt
  have h3 := d.e3.isLt
  have h4 := d.e4.isLt
  rw [blockSum_eq]
  omega

/-- Digits to the base 85 are determined by the number they write. -/
theorem blockSum_injective {d d' : CharGroup Byte} (hd : d.areDigits) (hd' : d'.areDigits)
    (h : blockSum d = blockSum d') : d = d' := by
  obtain ⟨a0, a1, a2, a3, a4⟩ := d
  obtain ⟨b0, b1, b2, b3, b4⟩ := d'
  simp only [CharGroup.areDigits, blockSum_eq] at h hd hd'
  have e0 : a0 = b0 := BitVec.eq_of_toNat_eq (by omega)
  have e1 : a1 = b1 := BitVec.eq_of_toNat_eq (by omega)
  have e2 : a2 = b2 := BitVec.eq_of_toNat_eq (by omega)
  have e3 : a3 = b3 := BitVec.eq_of_toNat_eq (by omega)
  have e4 : a4 = b4 := BitVec.eq_of_toNat_eq (by omega)
  rw [e0, e1, e2, e3, e4]

/-- The largest sum of valid digits is the greatest five-digit number to the base 85. -/
theorem blockSum_le_of_areDigits {d : CharGroup Byte} (hd : d.areDigits) : blockSum d ≤ 85 ^ 5 - 1 := by
  rw [CharGroup.areDigits] at hd
  rw [blockSum_eq]
  omega

/-- Settles O29: the digits are bounded by their width or by 84, and digits to the base 85 are unique. -/
theorem blockSumBoundsAndInjectivity : Obligations.BlockSumBoundsAndInjectivity := by
  refine ⟨fun d => ⟨blockSum_le d, Nat.lt_of_le_of_lt (blockSum_le d) (by decide)⟩, fun d h0 h1 h2 h3 h4 => ?_⟩
  have hd : d.areDigits := ⟨h0, h1, h2, h3, h4⟩
  have hle := blockSum_le_of_areDigits hd
  refine ⟨hle, Nat.lt_of_le_of_lt hle (by decide), ⟨fun hzero => ?_, fun hzero => hzero ▸ rfl⟩,
    fun d' k0 k1 k2 k3 k4 heq => blockSum_injective hd ⟨k0, k1, k2, k3, k4⟩ heq⟩
  exact blockSum_injective hd (by simp [CharGroup.areDigits]) hzero

theorem blockValue_toNat (n : Nat) : (blockValue n).toNat = n % 2 ^ 32 := BitVec.toNat_ofNat n 32

/-- Settles O30: a valid sum is below 2 * 2^32, so the truncation takes 2^32 away at most once. -/
theorem nonCanonicalGroupsWrap : Obligations.NonCanonicalGroupsWrap := by
  intro d h0 h1 h2 h3 h4
  have hle := blockSum_le_of_areDigits ⟨h0, h1, h2, h3, h4⟩
  rw [blockValue_toNat]
  omega

/-- The divide chain's digits as quotients by the powers of 85 (41_encode.md R96). -/
theorem divideChain_eq_powers {v : Nat} (hv : v < 2 ^ 32) :
    divideChain v = ⟨v / 85 ^ 4 % 85, v / 85 ^ 3 % 85, v / 85 ^ 2 % 85, v / 85 ^ 1 % 85, v % 85⟩ := by
  rw [divideChain_eq, CharGroup.mk.injEq]
  omega

/-- The divide chain writes the numeral of its value. -/
theorem divideChain_sum (v : Nat) : (divideChain v).e0 * 52200625 + (divideChain v).e1 * 614125
    + (divideChain v).e2 * 7225 + (divideChain v).e3 * 85 + (divideChain v).e4 = v := by
  simp only [divideChain_eq]
  omega

/-- The digit registers of a 32-bit value have the value for their block sum. -/
theorem blockSum_divideChain {v : Nat} (hv : v < 2 ^ 32) : blockSum ((divideChain v).map (BitVec.ofNat 8)) = v := by
  have hdigits := divideChain_map_toNat hv
  generalize (divideChain v).map (BitVec.ofNat 8) = d at hdigits ⊢
  have hsum := divideChain_sum v
  rw [← hdigits] at hsum
  exact hsum

theorem blockValue_of_toNat (v : Word) : blockValue v.toNat = v := by
  rw [blockValue, BitVec.ofNat_toNat, BitVec.setWidth_eq]

/-- Settles O31: the chain of quotients and remainders gives the digits of the numeral, and their sum is the value. -/
theorem divideChainGivesTheNumeral : Obligations.DivideChainGivesTheNumeral := by
  intro v d
  obtain ⟨h0, h1, h2, h3, h4⟩ := divideChain_le v.isLt
  obtain ⟨e0, e1, e2, e3, e4⟩ := CharGroup.mk.inj (divideChain_eq_powers v.isLt)
  have hsum := blockSum_divideChain v.isLt
  exact ⟨h0, h1, h2, h3, h4, e0, e1, e2, e3, e4, hsum, hsum.symm ▸ blockValue_of_toNat v⟩

/-- A decode-table entry has bit 7 set exactly where it is the sentinel: digits are below 85. -/
theorem taint_decLut {p : Params} (hp : p.ok = true) (a : BitVec 7) :
    taint (p.decLut a).toNat = (p.decLut a == Config.sentinel) := by
  rw [Bool.eq_iff_iff, taint_iff, beq_iff_eq]
  by_cases ha : a ∈ p.alphabet
  · have hdigit := (Params.decLut_le_iff_mem hp a).mpr ha
    refine ⟨fun h => by omega, fun h => ?_⟩
    rw [h] at hdigit
    exact absurd hdigit (by decide)
  · rw [Params.decLut_of_not_mem ha]
    decide

/-- A code is invalid exactly when it or its table entry has a bit from bit 7 up. -/
theorem invalidCode_eq_taint {p : Params} (hp : p.ok = true) (c : Code) :
    invalidCode p c = (taint c || taint (p.decLookup c).toNat) := by
  have hcode : decide (128 ≤ c) = taint c := by rw [Bool.eq_iff_iff, decide_eq_true_eq, taint_iff]
  rw [invalidCode, hcode, Params.decLookup, taint_decLut hp]

/-- What one block adds to the taint of CANARY (40_decode.md R77). -/
theorem taint_accumulate {p : Params} (hp : p.ok = true) (canary : Nat) (c : CharGroup Code) :
    taint (accumulate canary c (c.map p.decLookup)) = (taint canary || invalidCode p c.e0 || invalidCode p c.e1
      || invalidCode p c.e2 || invalidCode p c.e3 || invalidCode p c.e4) := by
  simp only [accumulate, CharGroup.map, taint_or, invalidCode_eq_taint hp]
  ac_rfl

/-- Settles O32: an OR is tainted exactly when one of its terms is. -/
theorem taintIsPerCharacterValidity : Obligations.TaintIsPerCharacterValidity := by
  intro p canary c hp
  simp only [taint_accumulate hp, Bool.or_eq_true, or_assoc]

/-- An encode-table entry is a valid character. -/
theorem invalidCode_encLut {p : Params} (hp : p.ok = true) {k : Nat} (hk : k < 85) :
    invalidCode p (p.encLut k).toNat = false := by
  have hlt := p.encLut_lt k
  have hdigit := Params.decLut_encLut hp hk
  have hne : BitVec.ofNat 8 k ≠ Config.sentinel := by
    intro h
    have hnat := congrArg BitVec.toNat h
    simp only [BitVec.toNat_ofNat, Config.sentinel] at hnat
    omega
  simp [invalidCode, hdigit, hne, hlt]

/-- The five characters ENCBLK writes are table entries of digits. -/
theorem State.encodeBlock_units (s : State) {j : Nat} (hj : j < 5) :
    ∃ k < 85, s.encodeBlock.readText (5 * s.blk + j) = (s.build.encLut k).toNat := by
  obtain ⟨h0, h1, h2, h3, h4⟩ := divideChain_le s.encodeValue.isLt
  obtain ⟨e0, e1, e2, e3, e4⟩ := CharGroup.mk.inj s.rdTextBlock_encodeBlock
  interval_cases j
  · exact ⟨_, by omega, e0⟩
  · exact ⟨_, by omega, e1⟩
  · exact ⟨_, by omega, e2⟩
  · exact ⟨_, by omega, e3⟩
  · exact ⟨_, by omega, e4⟩

/-- Settles O33: each unit written is the table entry of a digit below 85. -/
theorem encblkWritesValidCharacters : Obligations.EncblkWritesValidCharacters := by
  intro s hp hbusy hdir hleft
  refine ⟨_, exec_encblk_of_enabled (s.encblkEnabled_iff.mpr ⟨hbusy, hdir, hleft⟩), fun j hj => ?_⟩
  obtain ⟨k, hk, hunit⟩ := s.encodeBlock_units hj
  refine ⟨⟨k, hk, hunit⟩, ?_, ?_⟩
  · rw [hunit]
    exact s.build.encLut_lt k
  · rw [hunit]
    exact invalidCode_encLut hp hk

end Sys2Proof.Machine
end

section
/-! PROOFS. Each instruction's meaning as one equation, and one turn of the machine: whose turn it is, what the selector
selects, and a table word placed in front (30_encoding.md R60; log entries 7, 8, 13, 14). -/

namespace Sys2Proof.Machine

/-! The meanings by one equation each -/

theorem exec_decblk_eq (s : State) : exec .decblk s = .next (if s.decblkEnabled then s.decodeBlock else s) := by
  cases h : s.decblkEnabled with
  | true => exact exec_decblk_of_enabled h
  | false => simp [exec_decblk, execDecblk, h]

theorem exec_encblk_eq (s : State) : exec .encblk s = .next (if s.encblkEnabled then s.encodeBlock else s) := by
  cases h : s.encblkEnabled with
  | true => exact exec_encblk_of_enabled h
  | false => simp [exec_encblk, execEncblk, h]

/-- What DECFIN leaves when it is enabled (40_decode.md R79). -/
def State.decodeEnd (s : State) : State :=
  if taint s.canary then raiseInvalidInput .character (s.scrambleBytes (4 * s.nblk)) else succeed (4 * s.nblk) s

theorem State.decodeEnd_of_taint {s : State} (h : taint s.canary = true) :
    s.decodeEnd = raiseInvalidInput .character (s.scrambleBytes (4 * s.nblk)) := if_pos h

theorem State.decodeEnd_of_clean {s : State} (h : taint s.canary = false) : s.decodeEnd = succeed (4 * s.nblk) s := by
  simp [State.decodeEnd, h]

theorem exec_decfin_eq (s : State) : exec .decfin s = .next (if s.decfinEnabled then s.decodeEnd else s) := by
  rw [exec_decfin, execDecfin, State.decodeEnd]
  split_ifs <;> rfl

theorem exec_encfin_eq (s : State) :
    exec .encfin s = .next (if s.encfinEnabled then succeed (5 * s.nblk) s else s) := by
  rw [exec_encfin, execEncfin]
  split_ifs <;> rfl

theorem exec_wrt_eq (i : Nat) (c : Code) (s : State) : exec (.wrt i c) s =
    .next (if !s.status.busy && decide (i < s.build.textCap) then s.writeText i (c % 2 ^ s.build.charW) else s) := by
  rw [exec_wrt, execWrt]
  split_ifs <;> rfl

theorem exec_wrb_eq (i : Nat) (v : Byte) (s : State) : exec (.wrb i v) s =
    .next (if !s.status.busy && decide (i < s.build.binCap) then s.writeByte i v else s) := by
  rw [exec_wrb, execWrb]
  split_ifs <;> rfl

theorem exec_rdt_of_reachable {s : State} {i : Nat} (h : s.status.busy = false ∧ i < s.build.textCap) :
    exec (.rdt i) s = .next (s.withReply (.code (s.readText i))) := by
  rw [exec_rdt, execRdt, if_pos (portOpen h)]

theorem exec_rdb_of_reachable {s : State} {i : Nat} (h : s.status.busy = false ∧ i < s.build.binCap) :
    exec (.rdb i) s = .next (s.withReply (.byte (s.readByte i))) := by
  rw [exec_rdb, execRdb, if_pos (portOpen h)]

/-- A read of TBUF answers with a code and may count a draw. -/
theorem exec_rdt_cases (i : Nat) (s : State) :
    ∃ (c : Code) (k : Nat), exec (.rdt i) s = .next { s with reply := .code c, draws := k } := by
  by_cases h : s.status.busy = false ∧ i < s.build.textCap
  · exact ⟨_, _, exec_rdt_of_reachable h⟩
  · exact ⟨_, _, exec_rdt_of_unreachable (unreachable_iff.mpr h)⟩

/-- A read of BBUF answers with a byte and may count a draw. -/
theorem exec_rdb_cases (i : Nat) (s : State) :
    ∃ (v : Byte) (k : Nat), exec (.rdb i) s = .next { s with reply := .byte v, draws := k } := by
  by_cases h : s.status.busy = false ∧ i < s.build.binCap
  · exact ⟨_, _, exec_rdb_of_reachable h⟩
  · exact ⟨_, _, exec_rdb_of_unreachable (unreachable_iff.mpr h)⟩

/-- Every SYM row makes its two table reads. -/
theorem exec_sym_eq {i : Instr} (hi : i.format = .sym) (s : State) :
    ∃ e d : Byte, exec i s = .next (s.withSymRead e d) := by
  obtain ⟨k, code, hexec⟩ := exec_of_sym hi
  rw [hexec]
  exact ⟨_, _, rfl⟩

theorem exec_completes (i : Instr) (s : State) : ∃ t, exec i s = .next t := by
  cases i using Instr.casesByFormat with
  | dec n => exact ⟨_, exec_dec n s⟩
  | enc n => exact ⟨_, exec_enc n s⟩
  | decblk => exact ⟨_, exec_decblk_eq s⟩
  | decfin => exact ⟨_, exec_decfin_eq s⟩
  | encblk => exact ⟨_, exec_encblk_eq s⟩
  | encfin => exact ⟨_, exec_encfin_eq s⟩
  | wrt k c => exact ⟨_, exec_wrt_eq k c s⟩
  | wrb k v => exact ⟨_, exec_wrb_eq k v s⟩
  | rdt k => obtain ⟨c, n, h⟩ := exec_rdt_cases k s; exact ⟨_, h⟩
  | rdb k => obtain ⟨v, n, h⟩ := exec_rdb_cases k s; exact ⟨_, h⟩
  | rds => exact ⟨_, exec_rds s⟩
  | rdl => exact ⟨_, exec_rdl s⟩
  | rdc => exact ⟨_, exec_rdc s⟩
  | reset => exact ⟨_, exec_reset s⟩
  | sym i hi => obtain ⟨e, d, h⟩ := exec_sym_eq hi s; exact ⟨_, h⟩

/-! One turn -/

theorem step_of_turn {s u : State} {x : Item} {i : Instr} (hturn : s.turn = (x, u)) (hdecode : decode x = .ok i) :
    step s = exec i u := by
  simp only [step, hturn, hdecode]

theorem State.turn_of_host {s : State} {h : HostItem} {rest : List Turn} (hin : s.inbox = .host h :: rest) :
    s.turn = (.host h, { s with inbox := rest }) := by
  simp [State.turn, hin]

theorem State.turn_of_engine {s : State} {rest : List Turn} (hin : s.inbox = .engine :: rest) :
    s.turn = (.sel s.sel, { s with inbox := rest }) := by
  simp [State.turn, hin]

/-- Settles O4: the turn's item is the host's, and the state keeps the rest of the inbox. -/
theorem stepRunsTheHostItem : Obligations.StepRunsTheHostItem := by
  intro s h rest i hin hdecode
  exact step_of_turn (State.turn_of_host hin) hdecode

/-- A host item is the head of the inbox. -/
theorem State.inbox_of_turn_host {s : State} {h : HostItem} (hitem : s.turn.1 = .host h) :
    ∃ rest, s.inbox = .host h :: rest := by
  rw [State.turn] at hitem
  split at hitem
  · cases hitem
    exact ⟨_, ‹_›⟩
  · cases hitem
  · cases hitem

theorem step_of_idleTurn {s u : State} (hturn : s.turn = (.sel s.sel, u)) (hidle : s.status.busy = false) :
    step s = .next u := by
  have hnone : decode (.sel s.sel) = .error (.noStepSelected s.sel) :=
    decodeSel_of_idle s.sel (s.sel_getLsbD_two.trans hidle)
  simp only [step, hturn, hnone]

/-- Settles O6: whether the inbox is empty or gives the engine the turn, the item is the selector, which selects no step
when BUSY is 0. -/
theorem engineTurnRunsTheSelectedStep : Obligations.EngineTurnRunsTheSelectedStep := by
  intro s u hu
  have hturn : s.turn = (.sel s.sel, u) := by
    rcases hu with ⟨hin, hu⟩ | ⟨rest, hin, rfl⟩
    · rw [hu]
      exact s.turn_of_empty hin
    · exact State.turn_of_engine hin
  exact ⟨step_of_idleTurn hturn, fun i => step_of_turn hturn⟩

/-- Settles O7: a step whose enabling condition fails is not taken. -/
theorem engineStepNotEnabledChangesNothing : Obligations.EngineStepNotEnabledChangesNothing := by
  intro s
  simp only [← State.decblkEnabled_iff, ← State.decfinEnabled_iff, ← State.encblkEnabled_iff, ← State.encfinEnabled_iff]
  refine ⟨fun h => ?_, fun h => ?_, fun h => ?_, fun h => ?_⟩
  · rw [exec_decblk_eq, if_neg h]
  · rw [exec_decfin_eq, if_neg h]
  · rw [exec_encblk_eq, if_neg h]
  · rw [exec_encfin_eq, if_neg h]

/-- Settles O34: no arm of exec refuses, and of the items only a code outside the symbol table fails to decode to an
instruction or to an idle engine turn. -/
theorem everyInstructionCompletes : Obligations.EveryInstructionCompletes := by
  refine ⟨exec_completes, fun s => ?_⟩
  rcases step_cases s with ⟨i, -, hstep⟩ | ⟨w, -, hstep⟩ | ⟨c, hitem, hstep⟩
  · exact .inl (hstep ▸ exec_completes i s.turn.2)
  · exact .inl ⟨_, hstep⟩
  · obtain ⟨rest, hin⟩ := State.inbox_of_turn_host hitem
    refine .inr ⟨c, rest, hin, fun i hmem => ?_, hstep⟩
    obtain ⟨t, ht⟩ := exec_completes i { s with inbox := rest }
    rw [step_of_turn (State.turn_of_host hin) (symRows_decodeSym _ hmem), ht] at hstep
    cases hstep

/-- Settles O22: every register is the reset value, and the engine's turn leaves an idle machine. -/
theorem resetStateHoldsTheSpecValues : Obligations.ResetStateHoldsTheSpecValues :=
  ⟨rfl, Status.byte_idle, rfl, rfl, rfl, rfl, step_of_idleTurn (State.reset.turn_of_empty rfl) rfl⟩

/-! A table word placed in front -/

theorem decodeTableWord_eq_some {nbits w : Nat} {i : Instr} (h : decodeTableWord nbits w = some i) :
    ∃ x, itemOfBits nbits w = .ok x ∧ decode x = .ok i := by
  rw [decodeTableWord] at h
  split at h
  · rename_i x hitem
    refine ⟨x, hitem, ?_⟩
    cases hdecode : decode x with
    | ok j => rw [hdecode] at h; cases h; rfl
    | error r => rw [hdecode] at h; cases h
  · cases h

theorem itemOfBits_eq_sel {nbits w : Nat} {sel : BitVec 3} (h : itemOfBits nbits w = .ok (.sel sel)) :
    sel = BitVec.ofNat 3 w := by
  rw [itemOfBits] at h
  split_ifs at h
  · simp at h
  · simpa using h.symm
  · simpa using h.symm
  · simp at h

theorem State.withFetchWord_eq (s : State) {nbits w : Nat} {x : Item} (h : itemOfBits nbits w = .ok x) :
    s.withFetchWord nbits w = s.withItem x := by
  rw [State.withFetchWord, h]

theorem bits_of_selector :
    ∀ w : BitVec 3, BitVec.ofBool (w.getLsbD 2) ++ BitVec.ofBool (w.getLsbD 1) ++ BitVec.ofBool (w.getLsbD 0) = w := by
  decide

/-- A selector placed in front is the selector of the state. -/
theorem State.sel_withItem (s : State) (w : BitVec 3) : (s.withItem (.sel w)).sel = w := by
  have hbusy : (s.withItem (.sel w)).status.busy = w.getLsbD 2 := by
    simp only [State.withItem]
    cases w.getLsbD 2 <;> rfl
  have hdir : cmdDir (s.withItem (.sel w)).cmd = w.getLsbD 1 := by
    simp only [State.withItem, cmdDir_commandWord]
  have hlast : decide ((s.withItem (.sel w)).blk = (s.withItem (.sel w)).nblk) = w.getLsbD 0 := by
    simp only [State.withItem]
    cases w.getLsbD 0 <;> simp
  rw [State.sel_eq hbusy hdir hlast, bits_of_selector]

theorem State.blk_le_withItem (s : State) (w : BitVec 3) : (s.withItem (.sel w)).blk ≤ (s.withItem (.sel w)).nblk := by
  simp only [State.withItem]
  split <;> omega

/-- The engine step the selector selects is enabled (30_encoding.md R60). -/
theorem State.enabled_of_decode_sel {s : State} {i : Instr} (hblk : s.blk ≤ s.nblk) (h : decode (.sel s.sel) = .ok i) :
    (i = .decblk → s.decblkEnabled = true) ∧ (i = .decfin → s.decfinEnabled = true)
      ∧ (i = .encblk → s.encblkEnabled = true) ∧ (i = .encfin → s.encfinEnabled = true) := by
  obtain ⟨hidle, hdecblk, hdecfin, hencblk, hencfin, -⟩ := selectorSelectsTheEnabledStep s hblk
  cases hbusy : s.status.busy with
  | false =>
    rw [(hidle hbusy).2] at h
    cases h
  | true =>
    cases hdir : cmdDir s.cmd <;> rcases Nat.lt_or_eq_of_le hblk with hleft | hlast
    · obtain ⟨-, hdecode, hen⟩ := hdecblk hbusy hdir hleft
      cases hdecode.symm.trans h
      simp [hen]
    · obtain ⟨-, hdecode, hen⟩ := hdecfin hbusy hdir hlast
      cases hdecode.symm.trans h
      simp [hen]
    · obtain ⟨-, hdecode, hen⟩ := hencblk hbusy hdir hleft
      cases hdecode.symm.trans h
      simp [hen]
    · obtain ⟨-, hdecode, hen⟩ := hencfin hbusy hdir hlast
      cases hdecode.symm.trans h
      simp [hen]

/-- Settles O8: a host item placed in front is taken again; a selector is placed as the engine's turn in a state whose
SEL it is. -/
theorem placedWordIsRunNext : Obligations.PlacedWordIsRunNext := by
  intro s nbits w i h
  obtain ⟨x, hitem, hdecode⟩ := decodeTableWord_eq_some h
  rw [s.withFetchWord_eq hitem]
  cases x with
  | host item =>
    have hne : i.format ≠ .sel := by
      rw [format_of_decode hdecode]
      cases item <;> simp [Item.format]
    refine ⟨s, step_of_turn (State.turn_of_host rfl) hdecode, rfl, rfl, rfl, rfl, fun _ => rfl,
      fun hsel => absurd hsel hne, ?_, ?_, ?_, ?_⟩ <;> rintro rfl <;> exact absurd rfl hne
  | sel sel =>
    have hsel : (s.withItem (.sel sel)).sel = sel := s.sel_withItem sel
    have hturn : (s.withItem (.sel sel)).turn = (.sel sel, { s.withItem (.sel sel) with inbox := s.inbox }) :=
      (State.turn_of_engine rfl).trans (by rw [hsel])
    have hen := State.enabled_of_decode_sel (s.blk_le_withItem sel) (hsel.symm ▸ hdecode)
    exact ⟨_, step_of_turn hturn hdecode, congrArg Prod.snd hturn.symm, rfl, rfl, rfl,
      fun hne => absurd (format_of_decode hdecode) hne, fun _ => hsel.trans (itemOfBits_eq_sel hitem), hen⟩

end Sys2Proof.Machine
end

section
/-! PROOFS. What each instruction leaves unchanged: the frames of the shared operations, the writers of each element
(10_state.md), and the two noninterference statements. -/

namespace Sys2Proof

theorem Instr.eq_of_format_sel {i : Instr} (h : i.format = .sel) :
    i = .decblk ∨ i = .decfin ∨ i = .encblk ∨ i = .encfin := by
  cases i using Instr.casesByFormat with
  | decblk => simp
  | decfin => simp
  | encblk => simp
  | encfin => simp
  | sym i hi => simp [hi] at h
  | _ => simp [Instr.format] at h

end Sys2Proof

namespace Sys2Proof.Machine

@[simp] theorem State.decodeBlock_build (s : State) : s.decodeBlock.build = s.build := rfl
@[simp] theorem State.decodeBlock_cmd (s : State) : s.decodeBlock.cmd = s.cmd := rfl
@[simp] theorem State.decodeBlock_status (s : State) : s.decodeBlock.status = s.status := rfl
@[simp] theorem State.decodeBlock_olen (s : State) : s.decodeBlock.olen = s.olen := rfl
@[simp] theorem State.decodeBlock_canary (s : State) :
    s.decodeBlock.canary = accumulate s.canary (s.rdTextBlock s.blk) s.blockDigits := rfl
@[simp] theorem State.decodeBlock_blk (s : State) : s.decodeBlock.blk = s.blk + 1 := rfl
@[simp] theorem State.decodeBlock_nblk (s : State) : s.decodeBlock.nblk = s.nblk := rfl
@[simp] theorem State.decodeBlock_tbuf (s : State) : s.decodeBlock.tbuf = s.tbuf := rfl
@[simp] theorem State.decodeBlock_bufDraw (s : State) : s.decodeBlock.bufDraw = s.bufDraw := rfl
@[simp] theorem State.decodeBlock_draws (s : State) : s.decodeBlock.draws = s.draws := rfl
@[simp] theorem State.decodeBlock_inbox (s : State) : s.decodeBlock.inbox = s.inbox := rfl
@[simp] theorem State.decodeBlock_reply (s : State) : s.decodeBlock.reply = s.reply := rfl
@[simp] theorem State.decodeBlock_symRead (s : State) : s.decodeBlock.symRead = s.symRead := rfl

@[simp] theorem State.encodeBlock_build (s : State) : s.encodeBlock.build = s.build := rfl
@[simp] theorem State.encodeBlock_cmd (s : State) : s.encodeBlock.cmd = s.cmd := rfl
@[simp] theorem State.encodeBlock_status (s : State) : s.encodeBlock.status = s.status := rfl
@[simp] theorem State.encodeBlock_olen (s : State) : s.encodeBlock.olen = s.olen := rfl
@[simp] theorem State.encodeBlock_canary (s : State) : s.encodeBlock.canary = s.canary := rfl
@[simp] theorem State.encodeBlock_blk (s : State) : s.encodeBlock.blk = s.blk + 1 := rfl
@[simp] theorem State.encodeBlock_nblk (s : State) : s.encodeBlock.nblk = s.nblk := rfl
@[simp] theorem State.encodeBlock_bbuf (s : State) : s.encodeBlock.bbuf = s.bbuf := rfl
@[simp] theorem State.encodeBlock_bufDraw (s : State) : s.encodeBlock.bufDraw = s.bufDraw := rfl
@[simp] theorem State.encodeBlock_draws (s : State) : s.encodeBlock.draws = s.draws := rfl
@[simp] theorem State.encodeBlock_inbox (s : State) : s.encodeBlock.inbox = s.inbox := rfl
@[simp] theorem State.encodeBlock_reply (s : State) : s.encodeBlock.reply = s.reply := rfl
@[simp] theorem State.encodeBlock_symRead (s : State) : s.encodeBlock.symRead = s.symRead := rfl

/-- DECFIN writes STATUS, OLEN and, on taint, BBUF and the counter of draws. -/
theorem State.decodeEnd_frame (s : State) : s.decodeEnd =
    { s with
      status := s.decodeEnd.status, olen := s.decodeEnd.olen
      bbuf := s.decodeEnd.bbuf, draws := s.decodeEnd.draws } := by
  rw [State.decodeEnd]
  split <;> rfl

/-- START writes CMD, STATUS, OLEN, CANARY, BLK and NBLK. -/
theorem start_frame (w : Word) (s : State) : start w s =
    { s with
      cmd := (start w s).cmd, status := (start w s).status, olen := (start w s).olen
      canary := (start w s).canary, blk := (start w s).blk, nblk := (start w s).nblk } := by
  rcases start_cases w s with ⟨-, h⟩ | ⟨-, ⟨-, h⟩ | ⟨-, -, h⟩ | ⟨-, -, h⟩⟩ <;> rw [h]

/-- What an instruction leaves, as an elimination rule: the state as it was, or the result of one of the named
operations. -/
theorem exec_elim {P : Instr → State → Prop} {s : State} (stay : ∀ i, P i s)
    (start : ∀ i w, i.format = .cmd → P i (start w s))
    (decblk : s.decblkEnabled = true → P .decblk s.decodeBlock)
    (decfin : s.decfinEnabled = true → P .decfin s.decodeEnd)
    (encblk : s.encblkEnabled = true → P .encblk s.encodeBlock)
    (encfin : s.encfinEnabled = true → P .encfin (succeed (5 * s.nblk) s))
    (wrt : ∀ k c, s.status.busy = false ∧ k < s.build.textCap → P (.wrt k c) (s.writeText k (c % 2 ^ s.build.charW)))
    (wrb : ∀ k v, s.status.busy = false ∧ k < s.build.binCap → P (.wrb k v) (s.writeByte k v))
    (rdt : ∀ k r n, P (.rdt k) { s with reply := r, draws := n })
    (rdb : ∀ k r n, P (.rdb k) { s with reply := r, draws := n })
    (read : ∀ i r, i.format = .port → P i { s with reply := r }) (reset : P .reset (resetState s))
    (sym : ∀ i e d, i.format = .sym → P i (s.withSymRead e d)) {i : Instr} {t : State} (h : exec i s = .next t) :
    P i t := by
  have run : ∀ {u}, exec i s = .next u → P i u → P i t := fun hu hP => Host.Outcome.next.inj (hu.symm.trans h) ▸ hP
  cases i using Instr.casesByFormat with
  | dec n => exact run (exec_dec n s) (start _ _ rfl)
  | enc n => exact run (exec_enc n s) (start _ _ rfl)
  | decblk =>
    refine run (exec_decblk_eq s) ?_
    split
    · exact decblk ‹_›
    · exact stay _
  | decfin =>
    refine run (exec_decfin_eq s) ?_
    split
    · exact decfin ‹_›
    · exact stay _
  | encblk =>
    refine run (exec_encblk_eq s) ?_
    split
    · exact encblk ‹_›
    · exact stay _
  | encfin =>
    refine run (exec_encfin_eq s) ?_
    split
    · exact encfin ‹_›
    · exact stay _
  | wrt k c =>
    by_cases hopen : s.status.busy = false ∧ k < s.build.textCap
    · exact run (exec_wrt_of_reachable hopen c) (wrt k c hopen)
    · exact run (exec_wrt_of_unreachable (unreachable_iff.mpr hopen) c) (stay _)
  | wrb k v =>
    by_cases hopen : s.status.busy = false ∧ k < s.build.binCap
    · exact run (exec_wrb_of_reachable hopen v) (wrb k v hopen)
    · exact run (exec_wrb_of_unreachable (unreachable_iff.mpr hopen) v) (stay _)
  | rdt k => obtain ⟨c, n, hread⟩ := exec_rdt_cases k s; exact run hread (rdt k _ n)
  | rdb k => obtain ⟨v, n, hread⟩ := exec_rdb_cases k s; exact run hread (rdb k _ n)
  | rds => exact run (exec_rds s) (read _ _ rfl)
  | rdl => exact run (exec_rdl s) (read _ _ rfl)
  | rdc => exact run (exec_rdc s) (read _ _ rfl)
  | reset => exact run (exec_reset s) reset
  | sym i hi => obtain ⟨e, d, hsym⟩ := exec_sym_eq hi s; exact run hsym (sym i e d hi)

/-- Settles O35: each named operation changes the fields its frame lemmas say, and a read of a buffer depends on its
list, its draw and the build alone. -/
theorem onlyItsWritersChangeAnElement : Obligations.OnlyItsWritersChangeAnElement := by
  intro i s t h
  apply exec_elim (h := h)
  case stay => simp
  case start =>
    intro i w hi
    rw [start_frame]
    simp [hi, State.readText, State.readByte]
  case decblk => simp [Instr.format, State.readText]
  case decfin =>
    rw [State.decodeEnd_frame]
    simp [Instr.format, State.readText]
  case encblk => simp [Instr.format, State.readByte]
  case encfin => simp [Instr.format, State.readText, State.readByte]
  case wrt => simp [Instr.format]
  case wrb => simp [Instr.format]
  case rdt => simp [Instr.format, State.readText, State.readByte]
  case rdb => simp [Instr.format, State.readText, State.readByte]
  case read => simp +contextual [State.readText, State.readByte]
  case reset => simp [Instr.format]
  case sym => simp +contextual [State.readText, State.readByte]

/-! STATUS -/

/-- What each legal STATUS shows the host (10_state.md R19). -/
theorem Status.legal_shows {t : Status} (h : t.legal) :
    (t.byte.toNat = 0x00 ∨ t.byte.toNat = 0x01 ∨ t.byte.toNat = 0x02 ∨ t.byte.toNat = 0x0E ∨ t.byte.toNat = 0x16
      ∨ t.byte.toNat = 0x1E)
    ∧ ¬ (t.busy = true ∧ t.done = true) ∧ (t.err = true → t.done = true ∧ t ≠ Status.succeeded)
    ∧ (t.cause ≠ .none ↔ t.err = true) := by
  rcases h with rfl | rfl | rfl | rfl | rfl | rfl <;> decide

/-- Settles O17: the byte is read off the four fields, the six legal values have the invariants, and O35 names the
writers. -/
theorem statusLayoutValuesAndWriters : Obligations.StatusLayoutValuesAndWriters := by
  refine ⟨fun ⟨busy, done, err, cause⟩ => ?_, fun s hinv => ?_, fun i s t h hdecfin hencfin hreset hcmd => ?_⟩
  · revert busy done err
    cases cause <;> decide
  · obtain ⟨hbyte, hexcl, herr, hcause⟩ := Status.legal_shows hinv.status
    exact ⟨hbyte, hexcl, fun he => ⟨(herr he).1, hinv.olen (herr he).2⟩, hcause⟩
  · obtain ⟨-, -, hstatus, -⟩ := onlyItsWritersChangeAnElement i s t h
    exact hstatus hcmd hreset hdecfin hencfin

/-! The host's reads and writes -/

/-- Settles O12: the operand is cut when it is written, so cutting it before makes no difference. -/
theorem wrtCutsTheCodeToCharWidth : Obligations.WrtCutsTheCodeToCharWidth := by
  intro s i c
  have hlt : c % 2 ^ s.build.charW < 2 ^ s.build.charW := Nat.mod_lt _ (by positivity)
  have hcut : exec (.wrt i c) s = exec (.wrt i (c % 2 ^ s.build.charW)) s := by
    simp only [exec_wrt_eq, Nat.mod_mod]
  obtain ⟨t, ht, -, hunit, -⟩ := wrtWritesItsUnit s i _ hlt
  exact ⟨hcut, t, hcut.trans ht, hunit⟩

/-- Settles O14: reachable, the unit is returned and no draw is made; else a drawn code of CHAR_W bits. -/
theorem rdtReturnsTheUnit : Obligations.RdtReturnsTheUnit := by
  intro s i
  by_cases hopen : s.status.busy = false ∧ i < s.build.textCap
  · exact ⟨_, _, exec_rdt_of_reachable hopen, rfl, fun _ _ => ⟨rfl, rfl⟩,
      fun hclosed => absurd hopen (unreachable_iff.mp hclosed), fun _ => ⟨rfl, rfl⟩⟩
  · exact ⟨_, _, exec_rdt_of_unreachable (unreachable_iff.mpr hopen), rfl, fun hidle hi => absurd ⟨hidle, hi⟩ hopen,
      fun _ => Nat.mod_lt _ (by positivity), fun _ => ⟨rfl, rfl⟩⟩

/-- Settles O15: reachable, the byte is returned and no draw is made; else a drawn byte. -/
theorem rdbReturnsTheByte : Obligations.RdbReturnsTheByte := by
  intro s i
  by_cases hopen : s.status.busy = false ∧ i < s.build.binCap
  · exact ⟨_, _, exec_rdb_of_reachable hopen, rfl, fun _ _ => ⟨rfl, rfl⟩, fun _ => ⟨rfl, rfl⟩⟩
  · exact ⟨_, _, exec_rdb_of_unreachable (unreachable_iff.mpr hopen), rfl, fun hidle hi => absurd ⟨hidle, hi⟩ hopen,
      fun _ => ⟨rfl, rfl⟩⟩

/-- Settles O38: a busy engine ignores START and the port's writes, and the reads and the SYM rows touch the host's side
alone. -/
theorem hostCannotDisturbARunningCall : Obligations.HostCannotDisturbARunningCall := by
  intro s t h rest hbusy hin hreset hstep
  have hturn := State.turn_of_host hin
  rcases step_cases s with ⟨i, hdecode, hexec⟩ | ⟨w, hitem, -⟩ | ⟨c, -, hrefused⟩
  · rw [hturn] at hdecode hexec
    have hform : encode i = .host h := encode_of_decode hdecode
    have hnext : exec i { s with inbox := rest } = .next t := hexec.symm.trans hstep
    revert hform
    apply exec_elim (h := hnext)
    case stay => intro i _; rfl
    case start => intro i w _ _; rw [start_of_busy (s := { s with inbox := rest }) hbusy]
    case decblk => intro _ hform; cases hform
    case decfin => intro _ hform; cases hform
    case encblk => intro _ hform; cases hform
    case encfin => intro _ hform; cases hform
    case wrt => intro k c hopen _; cases hbusy.symm.trans hopen.1
    case wrb => intro k v hopen _; cases hbusy.symm.trans hopen.1
    case rdt => intro k r n _; rfl
    case rdb => intro k r n _; rfl
    case read => intro i r _ _; rfl
    case reset => intro hform; cases hform; exact absurd rfl hreset
    case sym => intro i e d _ _; rfl
  · rw [hturn] at hitem
    cases hitem
  · rw [hrefused] at hstep
    cases hstep

/-! Noninterference -/

/-- The second state is the first but for the datapath registers. -/
def State.sameButDp (t u : State) : Prop := u = { t with dp := u.dp }

/-- Two states that take the same branch differ as the branches do. -/
theorem State.sameButDp_ite (guard : Bool) {a b a' b' : State} (ha : a.sameButDp a') (hb : b.sameButDp b') :
    State.sameButDp (if guard then a else b) (if guard then a' else b') := by
  cases guard
  · exact hb
  · exact ha

theorem start_sameButDp (w : Word) (s : State) (x : Datapath) : (start w s).sameButDp (start w { s with dp := x }) := by
  simp only [start, State.sameButDp]
  split_ifs <;> rfl

theorem exec_rdt_eq (i : Nat) (s : State) : exec (.rdt i) s =
    .next (if !s.status.busy && decide (i < s.build.textCap) then s.withReply (.code (s.readText i))
      else s.drawn.withReply (.code s.anyCode)) := by
  rw [exec_rdt, execRdt]
  split_ifs <;> rfl

theorem exec_rdb_eq (i : Nat) (s : State) : exec (.rdb i) s =
    .next (if !s.status.busy && decide (i < s.build.binCap) then s.withReply (.byte (s.readByte i))
      else s.drawn.withReply (.byte s.anyByte)) := by
  rw [exec_rdb, execRdb]
  split_ifs <;> rfl

/-- The guard that the four buffer operations share: the engine is idle and the index inside the buffer. -/
def State.portOpen (s : State) (k cap : Nat) : Bool := !s.status.busy && decide (k < cap)

/-- Settles O36: the guards and the results of each operation are of other fields. -/
theorem datapathRegistersCarryNothing : Obligations.DatapathRegistersCarryNothing := by
  intro i s x
  cases i using Instr.casesByFormat with
  | dec n => exact ⟨_, _, exec_dec n s, exec_dec n _, start_sameButDp _ s x⟩
  | enc n => exact ⟨_, _, exec_enc n s, exec_enc n _, start_sameButDp _ s x⟩
  | decblk => exact ⟨_, _, exec_decblk_eq s, exec_decblk_eq _, State.sameButDp_ite s.decblkEnabled rfl rfl⟩
  | decfin =>
    have hend : s.decodeEnd.sameButDp (State.decodeEnd { s with dp := x }) :=
      State.sameButDp_ite (taint s.canary) rfl rfl
    exact ⟨_, _, exec_decfin_eq s, exec_decfin_eq _, State.sameButDp_ite s.decfinEnabled hend rfl⟩
  | encblk => exact ⟨_, _, exec_encblk_eq s, exec_encblk_eq _, State.sameButDp_ite s.encblkEnabled rfl rfl⟩
  | encfin => exact ⟨_, _, exec_encfin_eq s, exec_encfin_eq _, State.sameButDp_ite s.encfinEnabled rfl rfl⟩
  | wrt k c =>
    exact ⟨_, _, exec_wrt_eq k c s, exec_wrt_eq k c _, State.sameButDp_ite (s.portOpen k s.build.textCap) rfl rfl⟩
  | wrb k v =>
    exact ⟨_, _, exec_wrb_eq k v s, exec_wrb_eq k v _, State.sameButDp_ite (s.portOpen k s.build.binCap) rfl rfl⟩
  | rdt k =>
    exact ⟨_, _, exec_rdt_eq k s, exec_rdt_eq k _, State.sameButDp_ite (s.portOpen k s.build.textCap) rfl rfl⟩
  | rdb k =>
    exact ⟨_, _, exec_rdb_eq k s, exec_rdb_eq k _, State.sameButDp_ite (s.portOpen k s.build.binCap) rfl rfl⟩
  | rds => exact ⟨_, _, exec_rds s, exec_rds _, rfl⟩
  | rdl => exact ⟨_, _, exec_rdl s, exec_rdl _, rfl⟩
  | rdc => exact ⟨_, _, exec_rdc s, exec_rdc _, rfl⟩
  | reset => exact ⟨_, _, exec_reset s, exec_reset _, rfl⟩
  | sym i hi =>
    obtain ⟨k, code, hexec⟩ := exec_of_sym hi
    rw [hexec]
    exact ⟨_, _, rfl, rfl, rfl⟩

/-- What a block ORs into CANARY does not depend on what stands there. -/
theorem accumulate_div {x y : Nat} (h : x / 2 ^ 7 = y / 2 ^ 7) (c : CharGroup Code) (d : CharGroup Byte) :
    accumulate x c d / 2 ^ 7 = accumulate y c d / 2 ^ 7 := by
  simp only [← Nat.shiftRight_eq_div_pow] at h ⊢
  simp only [accumulate, Nat.shiftRight_or_distrib, h]

/-- The second state is the first but for the low 7 bits of CANARY. -/
def State.sameButLowCanary (t u : State) : Prop :=
  u = { t with canary := u.canary } ∧ u.canary / 2 ^ 7 = t.canary / 2 ^ 7

theorem State.sameButLowCanary_ite (guard : Bool) {a b a' b' : State} (ha : a.sameButLowCanary a')
    (hb : b.sameButLowCanary b') :
    State.sameButLowCanary (if guard then a else b) (if guard then a' else b') := by
  cases guard
  · exact hb
  · exact ha

/-- The engine's steps read CANARY in DECFIN's test alone, and it is of the upper bits. -/
theorem exec_sel_sameButLowCanary {i : Instr} (hi : i.format = .sel) {s : State} {x : Nat}
    (hx : x / 2 ^ 7 = s.canary / 2 ^ 7) :
    ∃ t u, exec i s = .next t ∧ exec i { s with canary := x } = .next u ∧ t.sameButLowCanary u := by
  have hs : s.sameButLowCanary { s with canary := x } := ⟨rfl, hx⟩
  rcases Instr.eq_of_format_sel hi with rfl | rfl | rfl | rfl
  · have hblock : s.decodeBlock.sameButLowCanary (State.decodeBlock { s with canary := x }) :=
      ⟨rfl, accumulate_div hx _ _⟩
    exact ⟨_, _, exec_decblk_eq s, exec_decblk_eq _, State.sameButLowCanary_ite s.decblkEnabled hblock hs⟩
  · have hend : s.decodeEnd.sameButLowCanary (State.decodeEnd { s with canary := x }) := by
      have htaint : taint x = taint s.canary := by rw [Bool.eq_iff_iff, taint_iff_div, taint_iff_div, hx]
      simp only [State.decodeEnd, htaint]
      exact State.sameButLowCanary_ite (taint s.canary) ⟨rfl, hx⟩ ⟨rfl, hx⟩
    exact ⟨_, _, exec_decfin_eq s, exec_decfin_eq _, State.sameButLowCanary_ite s.decfinEnabled hend hs⟩
  · exact ⟨_, _, exec_encblk_eq s, exec_encblk_eq _, State.sameButLowCanary_ite s.encblkEnabled ⟨rfl, hx⟩ hs⟩
  · exact ⟨_, _, exec_encfin_eq s, exec_encfin_eq _, State.sameButLowCanary_ite s.encfinEnabled ⟨rfl, hx⟩ hs⟩

theorem step_of_rejectedTurn {s u : State} {w : BitVec 3} {r : Reject} (hturn : s.turn = (.sel w, u))
    (hdecode : decode (.sel w) = .error r) : step s = .next u := by
  obtain rfl := decodeSel_error w r hdecode
  simp only [step, hturn, hdecode]

/-- Settles O37: SEL does not depend on CANARY, so both states run the same step or are both idle. -/
theorem lowCanaryBitsDecideNothing : Obligations.LowCanaryBitsDecideNothing := by
  intro s x t hin hx hstep
  have hturn := s.turn_of_empty hin
  have hturn' := State.turn_of_empty { s with canary := x } hin
  cases hdecode : decode (.sel s.sel) with
  | ok i =>
    obtain ⟨t', u, ht, hu, hsame⟩ := exec_sel_sameButLowCanary (format_of_decode hdecode) hx
    rw [step_of_turn hturn hdecode, ht] at hstep
    cases hstep
    exact ⟨u, (step_of_turn hturn' hdecode).trans hu, hsame⟩
  | error r =>
    have hx' : s.sameButLowCanary { s with canary := x } := ⟨rfl, hx⟩
    cases (step_of_rejectedTurn hturn hdecode).symm.trans hstep
    exact ⟨_, step_of_rejectedTurn hturn' hdecode, hx'⟩

end Sys2Proof.Machine
end

section
/-! PROOFS. The invariant of the machine: it holds after reset, and every operation keeps it (10_state.md sections 3 to
7, 20_memory.md section 4). -/

namespace Sys2Proof.Machine

theorem accumulate_lt {canary n : Nat} {c : CharGroup Code} {d : CharGroup Byte} (hcanary : canary < 2 ^ n)
    (hc : c.e0 < 2 ^ n ∧ c.e1 < 2 ^ n ∧ c.e2 < 2 ^ n ∧ c.e3 < 2 ^ n ∧ c.e4 < 2 ^ n)
    (hd : ∀ v : Byte, v.toNat < 2 ^ n) : accumulate canary c d < 2 ^ n := by
  obtain ⟨h0, h1, h2, h3, h4⟩ := hc
  have or_lt : ∀ {x y : Nat}, x < 2 ^ n → y < 2 ^ n → x ||| y < 2 ^ n := Nat.or_lt_two_pow
  have hcodes := or_lt (or_lt (or_lt (or_lt (or_lt hcanary h0) h1) h2) h3) h4
  exact or_lt (or_lt (or_lt (or_lt (or_lt hcodes (hd d.e0)) (hd d.e1)) (hd d.e2)) (hd d.e3)) (hd d.e4)

/-- The datapath registers of a draw are cut to their widths. -/
theorem Datapath.any_wf (p : Params) (n : Nat) : (Datapath.any p n).wf p := by
  have hcode : ∀ c : Nat, c % 2 ^ p.charW < 2 ^ p.charW := fun c => Nat.mod_lt c (by positivity)
  exact ⟨⟨hcode _, hcode _, hcode _, hcode _, hcode _⟩, Nat.mod_lt _ (by decide)⟩

theorem Status.legal_running : Status.running.legal := .inr (.inl rfl)

theorem Status.legal_succeeded : Status.succeeded.legal := .inr (.inr (.inl rfl))

theorem Status.legal_failed {k : Cause} (hk : k ≠ .none) : (Status.failed k).legal := by
  cases k <;> simp [Status.legal] at hk ⊢

/-- The reset state of an admissible build meets the invariant. -/
theorem State.resetWith_inv {p : Params} (hp : p.ok = true) : (State.resetWith p).Inv where
  build := hp
  status := .inl rfl
  blk := Nat.le_refl 0
  nblk := Nat.zero_le _
  length := nofun
  olen := fun _ => rfl
  olenDone := nofun
  canary := by simp [State.resetWith]
  canaryEncode := fun _ => rfl
  datapath := by simp [State.resetWith, Datapath.zero, Datapath.wf]
  buffers := ⟨Memory.nil_wf _ _, Memory.nil_wf _ _⟩

/-- Settles O39: the default build is admissible. -/
theorem resetMeetsTheInvariant : Obligations.ResetMeetsTheInvariant := State.resetWith_inv defaultParams_ok

theorem State.Inv.resetState {s : State} (h : s.Inv) : (resetState s).Inv where
  build := h.build
  status := .inl rfl
  blk := Nat.le_refl 0
  nblk := Nat.zero_le _
  length := nofun
  olen := fun _ => rfl
  olenDone := nofun
  canary := by simp
  canaryEncode := fun _ => rfl
  datapath := Datapath.any_wf _ _
  buffers := ⟨Memory.nil_wf _ _, Memory.nil_wf _ _⟩

/-- START's writes keep the invariant when the call they begin is of whole blocks within the capacity. -/
theorem State.Inv.started {s : State} (h : s.Inv) {w : Word} {n : Nat} {status : Status} (hlegal : status.legal)
    (hresult : status ≠ Status.succeeded) (hn : n ≤ s.build.maxBlocks)
    (hlen : status.busy = true → cmdLen w = unitOf (cmdDir w) * n) :
    State.Inv { s with cmd := w, olen := 0, canary := 0, blk := 0, nblk := n, status := status } where
  build := h.build
  status := hlegal
  blk := Nat.zero_le _
  nblk := hn
  length := hlen
  olen := fun _ => rfl
  olenDone := fun hdone => absurd hdone hresult
  canary := by simp
  canaryEncode := fun _ => rfl
  datapath := h.datapath
  buffers := h.buffers

theorem State.Inv.start {s : State} (h : s.Inv) (w : Word) : (start w s).Inv := by
  rcases start_cases w s with ⟨-, heq⟩ | ⟨-, ⟨-, heq⟩ | ⟨-, -, heq⟩ | ⟨hlen, hcap, heq⟩⟩ <;> rw [heq]
  · exact h
  · exact h.started (Status.legal_failed (by decide)) (by decide) (Nat.zero_le _) nofun
  · exact h.started (Status.legal_failed (by decide)) (by decide) (Nat.zero_le _) nofun
  · exact h.started Status.legal_running (by decide) hcap fun _ =>
      (Nat.mul_div_cancel' (Nat.dvd_of_mod_eq_zero hlen)).symm

theorem State.Inv.rdTextBlock_lt {s : State} (h : s.Inv) (b : Nat) :
    (s.rdTextBlock b).e0 < 2 ^ s.build.charW ∧ (s.rdTextBlock b).e1 < 2 ^ s.build.charW
      ∧ (s.rdTextBlock b).e2 < 2 ^ s.build.charW ∧ (s.rdTextBlock b).e3 < 2 ^ s.build.charW
      ∧ (s.rdTextBlock b).e4 < 2 ^ s.build.charW := by
  have hunit := fun i => s.readText_lt i h.buffers.1
  exact ⟨hunit _, hunit _, hunit _, hunit _, hunit _⟩

theorem State.Inv.decodeBlock {s : State} (h : s.Inv) (hen : s.decblkEnabled = true) : s.decodeBlock.Inv := by
  obtain ⟨hbusy, hdir, hleft⟩ := s.decblkEnabled_iff.mp hen
  obtain ⟨htext, hbytes⟩ := h.buffers
  have hcodes := h.rdTextBlock_lt s.blk
  have hnblk := h.nblk
  refine { h with
    blk := hleft
    canary := accumulate_lt h.canary hcodes (Params.byte_fits h.build)
    canaryEncode := fun henc => absurd (hdir.symm.trans henc) Bool.false_ne_true
    datapath := ⟨hcodes, Nat.lt_of_le_of_lt (blockSum_le _) (by decide)⟩
    buffers := ⟨htext, Memory.writeQuad_wf s.bbuf (4 * s.blk) _ hbytes ?_⟩ }
  show 4 * s.blk + 3 < 4 * s.build.maxBlocks
  omega

theorem State.encodeChars_lt {s : State} (hp : s.build.ok = true) :
    s.encodeChars.e0 < 2 ^ s.build.charW ∧ s.encodeChars.e1 < 2 ^ s.build.charW ∧ s.encodeChars.e2 < 2 ^ s.build.charW
      ∧ s.encodeChars.e3 < 2 ^ s.build.charW ∧ s.encodeChars.e4 < 2 ^ s.build.charW :=
  have hfits := Params.byte_fits hp
  ⟨hfits _, hfits _, hfits _, hfits _, hfits _⟩

theorem State.Inv.encodeBlock {s : State} (h : s.Inv) (hen : s.encblkEnabled = true) : s.encodeBlock.Inv := by
  obtain ⟨hbusy, hdir, hleft⟩ := s.encblkEnabled_iff.mp hen
  obtain ⟨htext, hbytes⟩ := h.buffers
  have hchars := State.encodeChars_lt h.build
  have hnblk := h.nblk
  refine { h with
    blk := hleft
    datapath := ⟨hchars, h.datapath.2⟩
    buffers := ⟨Memory.writeGroup_wf s.tbuf (5 * s.blk) _ htext ?_ ?_, hbytes⟩ }
  · show 5 * s.blk + 4 < 5 * s.build.maxBlocks
    omega
  · simp only [decide_eq_true_eq]
    exact hchars

/-- A call that succeeds with as many units per block as its direction writes. -/
theorem State.Inv.succeed {s : State} (h : s.Inv) {len : Nat} (hlen : len = (if cmdDir s.cmd then 5 else 4) * s.nblk) :
    (succeed len s).Inv := by
  have hlt := h.textLength_lt
  refine { h with
    status := Status.legal_succeeded
    length := nofun
    olen := fun hne => absurd rfl hne
    olenDone := fun _ => ?_ }
  show (BitVec.ofNat 32 len).toNat = _
  rw [BitVec.toNat_ofNat, Nat.mod_eq_of_lt, hlen]
  · rfl
  · rw [hlen]
    split <;> omega

theorem State.Inv.raiseInvalidInput {s : State} (h : s.Inv) {k : Cause} (hk : k ≠ .none) :
    (raiseInvalidInput k s).Inv :=
  { h with
    status := Status.legal_failed hk
    length := nofun
    olen := fun _ => rfl
    olenDone := nofun }

theorem State.Inv.scrambleBytes {s : State} (h : s.Inv) : (s.scrambleBytes (4 * s.nblk)).Inv :=
  { h with
    buffers := ⟨h.buffers.1, Memory.writeBelow_wf _ _ _ h.buffers.2 (Nat.mul_le_mul_left 4 h.nblk) fun _ => rfl⟩ }

theorem State.Inv.decodeEnd {s : State} (h : s.Inv) (hen : s.decfinEnabled = true) : s.decodeEnd.Inv := by
  obtain ⟨-, hdir, -⟩ := s.decfinEnabled_iff.mp hen
  cases htaint : taint s.canary with
  | true =>
    rw [State.decodeEnd_of_taint htaint]
    exact h.scrambleBytes.raiseInvalidInput (by decide)
  | false =>
    rw [State.decodeEnd_of_clean htaint]
    exact h.succeed (by simp [hdir])

theorem exec_keeps_inv {i : Instr} {s t : State} (h : s.Inv) (hexec : exec i s = .next t) : t.Inv := by
  apply exec_elim (h := hexec)
  case stay => intro _; exact h
  case start => intro _ w _; exact h.start w
  case decblk => exact h.decodeBlock
  case decfin => exact h.decodeEnd
  case encblk => exact h.encodeBlock
  case encfin =>
    intro hen
    obtain ⟨-, hdir, -⟩ := s.encfinEnabled_iff.mp hen
    exact h.succeed (by simp [hdir])
  case wrt =>
    intro k c hopen
    have hcode : c % 2 ^ s.build.charW < 2 ^ s.build.charW := Nat.mod_lt _ (by positivity)
    exact { h with buffers := ⟨Memory.write_wf _ _ _ h.buffers.1 hopen.2 (decide_eq_true hcode), h.buffers.2⟩ }
  case wrb =>
    intro k v hopen
    exact { h with buffers := ⟨h.buffers.1, Memory.write_wf _ _ _ h.buffers.2 hopen.2 rfl⟩ }
  case rdt => intro _ _ _; exact { h with }
  case rdb => intro _ _ _; exact { h with }
  case read => intro _ _ _; exact { h with }
  case reset => exact h.resetState
  case sym => intro _ _ _ _; exact { h with }

/-- Taking a turn touches no field of the invariant. -/
theorem State.Inv.turn {s : State} (h : s.Inv) : s.turn.2.Inv := by
  rw [s.turn_state]
  exact { h with }

/-- Settles O40: a step is one instruction after the turn is taken, or the turn alone. -/
theorem stepKeepsTheInvariant : Obligations.StepKeepsTheInvariant := by
  intro s t h hstep
  rcases step_cases s with ⟨i, -, heq⟩ | ⟨w, -, heq⟩ | ⟨c, -, heq⟩
  · exact exec_keeps_inv h.turn (heq.symm.trans hstep)
  · cases heq.symm.trans hstep
    exact h.turn
  · cases heq.symm.trans hstep

end Sys2Proof.Machine
end

section
/-! PROOFS. The call contract of 40_decode.md R82 and 41_encode.md R99, block by block, and its two round trips
(41_encode.md section 4). -/

namespace Sys2Proof

/-- Every one of the five elements has the property. -/
def CharGroup.Forall {α : Type} (P : α → Prop) (g : CharGroup α) : Prop := P g.e0 ∧ P g.e1 ∧ P g.e2 ∧ P g.e3 ∧ P g.e4

def CharGroup.toList {α : Type} (g : CharGroup α) : List α := [g.e0, g.e1, g.e2, g.e3, g.e4]

def ByteQuad.toList {α : Type} (q : ByteQuad α) : List α := [q.b0, q.b1, q.b2, q.b3]

@[simp] theorem CharGroup.length_toList {α : Type} (g : CharGroup α) : g.toList.length = 5 := rfl

@[simp] theorem ByteQuad.length_toList {α : Type} (q : ByteQuad α) : q.toList.length = 4 := rfl

@[simp] theorem CharGroup.map_map {α β γ : Type} (f : α → β) (f' : β → γ) (g : CharGroup α) :
    (g.map f).map f' = g.map (f' ∘ f) := rfl

theorem CharGroup.map_congr {α β : Type} {f f' : α → β} {g : CharGroup α} (h : g.Forall fun a => f a = f' a) :
    g.map f = g.map f' := by
  obtain ⟨h0, h1, h2, h3, h4⟩ := h
  simp only [CharGroup.map, h0, h1, h2, h3, h4]

theorem CharGroup.Forall.imp {α : Type} {P Q : α → Prop} {g : CharGroup α} (h : g.Forall P) (hPQ : ∀ a, P a → Q a) :
    g.Forall Q := by
  obtain ⟨h0, h1, h2, h3, h4⟩ := h
  exact ⟨hPQ _ h0, hPQ _ h1, hPQ _ h2, hPQ _ h3, hPQ _ h4⟩

/-- A group is its five elements. -/
theorem CharGroup.ext_getElem? {α : Type} {g g' : CharGroup α} (h : ∀ j < 5, g.toList[j]? = g'.toList[j]?) :
    g = g' := by
  obtain ⟨a0, a1, a2, a3, a4⟩ := g
  obtain ⟨b0, b1, b2, b3, b4⟩ := g'
  have h0 : some a0 = some b0 := h 0 (by decide)
  have h1 : some a1 = some b1 := h 1 (by decide)
  have h2 : some a2 = some b2 := h 2 (by decide)
  have h3 : some a3 = some b3 := h 3 (by decide)
  have h4 : some a4 = some b4 := h 4 (by decide)
  simp_all

/-- Blocks of one length laid end to end: the length of the whole. -/
theorem length_flatMap_range {α : Type} {f : Nat → List α} {m : Nat} (hf : ∀ b, (f b).length = m) (n : Nat) :
    ((List.range n).flatMap f).length = n * m := by
  simp [List.length_flatMap, hf]

/-- Blocks of one length laid end to end: the unit `j` of block `b`. -/
theorem getElem?_flatMap_range {α : Type} {f : Nat → List α} {m : Nat} (hf : ∀ b, (f b).length = m) {n b j : Nat}
    (hb : b < n) (hj : j < m) : ((List.range n).flatMap f)[m * b + j]? = (f b)[j]? := by
  induction n with
  | zero => omega
  | succ n ih =>
    have hlen := length_flatMap_range hf n
    rw [List.range_succ, List.flatMap_append, List.flatMap_singleton, List.getElem?_append, hlen, Nat.mul_comm n m]
    rcases Nat.lt_succ_iff_lt_or_eq.mp hb with hlt | rfl
    · have hin : m * b + j < m * n := by
        have := Nat.mul_le_mul_left m (Nat.succ_le_of_lt hlt)
        rw [Nat.mul_succ] at this
        omega
      rw [if_pos hin, ih hlt]
    · rw [if_neg (by omega), Nat.add_sub_cancel_left]

/-- A list of whole blocks is given by its units, block by block. -/
theorem flatMap_range_eq_iff {α : Type} {f : Nat → List α} {m n : Nat} {x : List α} (hf : ∀ b, (f b).length = m)
    (hx : x.length = n * m) :
    (List.range n).flatMap f = x ↔ ∀ b < n, ∀ j < m, (f b)[j]? = x[m * b + j]? := by
  constructor
  · rintro rfl b hb j hj
    rw [getElem?_flatMap_range hf hb hj]
  · intro h
    apply List.ext_getElem?
    intro i
    by_cases hi : i < n * m
    · have hm : 0 < m := Nat.pos_of_ne_zero (by rintro rfl; simp at hi)
      have hdecomp : m * (i / m) + i % m = i := Nat.div_add_mod i m
      have hb : i / m < n := Nat.div_lt_of_lt_mul (Nat.mul_comm n m ▸ hi)
      have hj : i % m < m := Nat.mod_lt i hm
      rw [← hdecomp, getElem?_flatMap_range hf hb hj, h _ hb _ hj]
    · rw [List.getElem?_eq_none (by rw [length_flatMap_range hf]; omega), List.getElem?_eq_none (by omega)]

end Sys2Proof

namespace Sys2Proof.Machine

/-! The blocks of a text and of a byte sequence -/

/-- The text block `b` of a text (20_memory.md R34). -/
def textGroup (t : List Code) (b : Nat) : CharGroup Code :=
  ⟨t.getD (5 * b) 0, t.getD (5 * b + 1) 0, t.getD (5 * b + 2) 0, t.getD (5 * b + 3) 0, t.getD (5 * b + 4) 0⟩

/-- The binary block `b` of a byte sequence. -/
def byteQuad (x : List Byte) (b : Nat) : ByteQuad Byte :=
  ⟨x.getD (4 * b) 0, x.getD (4 * b + 1) 0, x.getD (4 * b + 2) 0, x.getD (4 * b + 3) 0⟩

/-- A sum of five terms with falling weights, written out. -/
theorem sum_range_five (d w : Nat → Nat) : ((List.range 5).map fun j => d j * w (4 - j)).sum =
    d 0 * w 4 + d 1 * w 3 + d 2 * w 2 + d 3 * w 1 + d 4 * w 0 := by
  simp [List.range_succ_eq_map, Nat.add_assoc]

theorem groupSum_eq (p : Params) (t : List Code) (b : Nat) :
    groupSum p t b = blockSum ((textGroup t b).map p.decLookup) := by
  rw [groupSum, sum_range_five (fun j => (p.decLut (BitVec.ofNat 7 (t.getD (5 * b + j) 0))).toNat) (85 ^ ·),
    blockSum_eq]
  simp [textGroup, CharGroup.map, Params.decLookup]

theorem quadValue_eq (x : List Byte) (b : Nat) : quadValue x b = (wordOf (byteQuad x b)).toNat :=
  (wordOf_toNat (byteQuad x b)).symm

theorem bigEndian_toNat (v : Word) : bigEndian v.toNat = (bytesOf v).toList := by
  obtain ⟨h0, h1, h2, h3⟩ := bytesOf_toNat v
  have hv := v.isLt
  simp only [bigEndian, ByteQuad.toList, List.cons.injEq, and_true]
  refine ⟨BitVec.eq_of_toNat_eq ?_, BitVec.eq_of_toNat_eq ?_, BitVec.eq_of_toNat_eq ?_, BitVec.eq_of_toNat_eq ?_⟩
  · rw [BitVec.toNat_ofNat, h0]; omega
  · rw [BitVec.toNat_ofNat, h1]
  · rw [BitVec.toNat_ofNat, h2]
  · rw [BitVec.toNat_ofNat, h3]

/-- The bytes DecodeCall gives for a block of text. -/
def decodeGroup (p : Params) (g : CharGroup Code) : ByteQuad Byte := bytesOf (blockValue (blockSum (g.map p.decLookup)))

/-- The characters EncodeCall gives for a block of bytes. -/
def encodeGroup (p : Params) (q : ByteQuad Byte) : CharGroup Byte := (divideChain (wordOf q).toNat).map p.encLut

theorem bigEndian_groupSum (p : Params) (t : List Code) (b : Nat) :
    bigEndian (groupSum p t b % 2 ^ 32) = (decodeGroup p (textGroup t b)).toList := by
  rw [groupSum_eq, ← blockValue_toNat, bigEndian_toNat]
  rfl

theorem encodeCall_group (p : Params) (x : List Byte) (b : Nat) :
    ((List.range 5).map fun j => p.encLut (quadValue x b / 85 ^ (4 - j) % 85)) =
      (encodeGroup p (byteQuad x b)).toList := by
  rw [quadValue_eq, encodeGroup, divideChain_eq_powers (wordOf _).isLt]
  simp [List.range_succ_eq_map, CharGroup.toList, CharGroup.map]

/-! The outcomes of the two calls -/

/-- DecodeCall: failed on the length, on the capacity, on a character, or the bytes of each block. -/
theorem decodeCall_cases (p : Params) (t : List Code) :
    (t.length % 5 ≠ 0 ∧ decodeCall p t = .err .length) ∨
    (t.length % 5 = 0 ∧ p.maxBlocks < t.length / 5 ∧ decodeCall p t = .err .capacity) ∨
    (t.length % 5 = 0 ∧ t.length / 5 ≤ p.maxBlocks ∧ t.any (invalidCode p) = true ∧ decodeCall p t = .err .character) ∨
    (t.length % 5 = 0 ∧ t.length / 5 ≤ p.maxBlocks ∧ t.any (invalidCode p) = false ∧
      decodeCall p t = .ok ((List.range (t.length / 5)).flatMap fun b => (decodeGroup p (textGroup t b)).toList)) := by
  by_cases hlen : t.length % 5 = 0
  · by_cases hcap : p.maxBlocks < t.length / 5
    · exact .inr (.inl ⟨hlen, hcap, by rw [decodeCall, if_neg (by omega), if_pos (by omega)]⟩)
    · have hle : t.length / 5 ≤ p.maxBlocks := by omega
      cases hany : t.any (invalidCode p) with
      | true =>
        exact .inr (.inr (.inl ⟨hlen, hle, rfl, by rw [decodeCall, if_neg (by omega), if_neg (by omega), if_pos hany]⟩))
      | false =>
        refine .inr (.inr (.inr ⟨hlen, hle, rfl, ?_⟩))
        rw [decodeCall, if_neg (by omega), if_neg (by omega), if_neg (by simp [hany])]
        simp only [bigEndian_groupSum]
  · exact .inl ⟨hlen, by rw [decodeCall, if_pos hlen]⟩

/-- EncodeCall: failed on the length, on the capacity, or the characters of each block. -/
theorem encodeCall_cases (p : Params) (x : List Byte) :
    (x.length % 4 ≠ 0 ∧ encodeCall p x = .err .length) ∨
    (x.length % 4 = 0 ∧ p.maxBlocks < x.length / 4 ∧ encodeCall p x = .err .capacity) ∨
    (x.length % 4 = 0 ∧ x.length / 4 ≤ p.maxBlocks ∧
      encodeCall p x = .ok ((List.range (x.length / 4)).flatMap fun b => (encodeGroup p (byteQuad x b)).toList)) := by
  by_cases hlen : x.length % 4 = 0
  · by_cases hcap : p.maxBlocks < x.length / 4
    · exact .inr (.inl ⟨hlen, hcap, by rw [encodeCall, if_neg (by omega), if_pos (by omega)]⟩)
    · refine .inr (.inr ⟨hlen, by omega, ?_⟩)
      rw [encodeCall, if_neg (by omega), if_neg (by omega)]
      simp only [encodeCall_group]
  · exact .inl ⟨hlen, by rw [encodeCall, if_pos hlen]⟩

theorem any_invalidCode_eq_false_iff (p : Params) (t : List Code) :
    t.any (invalidCode p) = false ↔ ∀ c ∈ t, invalidCode p c = false := by
  simp

/-- A text decodes exactly to the bytes of its groups, if it is aligned, fits and has valid characters only. -/
theorem decodeCall_eq_ok_iff {p : Params} {t : List Code} {out : List Byte} :
    decodeCall p t = .ok out ↔
      t.length % 5 = 0 ∧ t.length / 5 ≤ p.maxBlocks ∧ (∀ c ∈ t, invalidCode p c = false) ∧
        out = (List.range (t.length / 5)).flatMap fun b => (decodeGroup p (textGroup t b)).toList := by
  rw [← any_invalidCode_eq_false_iff]
  rcases decodeCall_cases p t with ⟨hlen, h⟩ | ⟨hlen, hcap, h⟩ | ⟨hlen, hcap, hany, h⟩ | ⟨hlen, hcap, hany, h⟩
  · simp [h, hlen]
  · simp [h, hcap.not_ge]
  · simp [h, hany]
  · simp [h, hlen, hcap, hany, eq_comm]

/-- A byte sequence encodes exactly to the characters of its blocks, if it is aligned and fits. -/
theorem encodeCall_eq_ok_iff {p : Params} {x out : List Byte} :
    encodeCall p x = .ok out ↔
      x.length % 4 = 0 ∧ x.length / 4 ≤ p.maxBlocks ∧
        out = (List.range (x.length / 4)).flatMap fun b => (encodeGroup p (byteQuad x b)).toList := by
  rcases encodeCall_cases p x with ⟨hlen, h⟩ | ⟨hlen, hcap, h⟩ | ⟨hlen, hcap, h⟩
  · simp [h, hlen]
  · simp [h, hcap.not_ge]
  · simp [h, hlen, hcap, eq_comm]

theorem invalidCode_eq_false_iff (p : Params) (c : Code) :
    invalidCode p c = false ↔ c < 128 ∧ p.decLut (BitVec.ofNat 7 c) ≠ Config.sentinel := by
  simp [invalidCode]

/-- Settles O44: a success is one block of output per block of a valid input. -/
theorem callOutputLengths : Obligations.CallOutputLengths := by
  intro p
  constructor
  · intro t out h
    obtain ⟨hlen, -, hvalid, rfl⟩ := decodeCall_eq_ok_iff.mp h
    exact ⟨length_flatMap_range (fun _ => ByteQuad.length_toList _) _, hlen, fun c hc =>
      (invalidCode_eq_false_iff p c).mp (hvalid c hc)⟩
  · intro x out h
    obtain ⟨hlen, -, rfl⟩ := encodeCall_eq_ok_iff.mp h
    exact ⟨length_flatMap_range (fun _ => CharGroup.length_toList _) _, hlen⟩

/-! One block through both tables -/

/-- The digits of a 32-bit value through both tables are the digits (30_encoding.md R57). -/
theorem decLookup_encodeGroup {p : Params} (hp : p.ok = true) (q : ByteQuad Byte) :
    ((encodeGroup p q).map BitVec.toNat).map p.decLookup = (divideChain (wordOf q).toNat).map (BitVec.ofNat 8) := by
  obtain ⟨h0, h1, h2, h3, h4⟩ := divideChain_le (wordOf q).isLt
  have hdigits : (divideChain (wordOf q).toNat).Forall (· < 85) := ⟨by omega, by omega, by omega, by omega, by omega⟩
  rw [encodeGroup, CharGroup.map_map, CharGroup.map_map]
  refine CharGroup.map_congr (hdigits.imp fun k hk => ?_)
  simpa [Params.decLookup, BitVec.ofNat_toNat] using Params.decLut_encLut hp hk

/-- Decoding the characters of a block of bytes gives the bytes. -/
theorem decodeGroup_encodeGroup {p : Params} (hp : p.ok = true) (q : ByteQuad Byte) :
    decodeGroup p ((encodeGroup p q).map BitVec.toNat) = q := by
  rw [decodeGroup, decLookup_encodeGroup hp, blockSum_divideChain (wordOf q).isLt, blockValue_of_toNat, bytesOf_wordOf]

theorem invalidCode_encodeGroup {p : Params} (hp : p.ok = true) (q : ByteQuad Byte) :
    ∀ v ∈ (encodeGroup p q).toList, invalidCode p v.toNat = false := by
  obtain ⟨h0, h1, h2, h3, h4⟩ := divideChain_le (wordOf q).isLt
  have hvalid : ∀ k, k ≤ 84 → invalidCode p (p.encLut k).toNat = false := fun k hk =>
    invalidCode_encLut hp (Nat.lt_succ_of_le hk)
  simp only [CharGroup.toList, encodeGroup, CharGroup.map, List.forall_mem_cons]
  exact ⟨hvalid _ (by omega), hvalid _ h1, hvalid _ h2, hvalid _ h3, hvalid _ h4, by simp⟩

/-- A valid character through both tables is itself. -/
theorem encLut_decLookup {p : Params} (hp : p.ok = true) {c : Code} (hc : invalidCode p c = false) :
    p.encLut (p.decLookup c).toNat = BitVec.ofNat 8 c := by
  obtain ⟨hlt, hne⟩ := (invalidCode_eq_false_iff p c).mp hc
  have hmem : BitVec.ofNat 7 c ∈ p.alphabet := by
    by_contra h
    exact hne (Params.decLut_of_not_mem h)
  have hlow : c % 2 ^ 7 = c := Nat.mod_eq_of_lt hlt
  rw [Params.decLookup, Params.encLut_decLut hp hmem]
  apply BitVec.eq_of_toNat_eq
  rw [BitVec.toNat_setWidth, BitVec.toNat_ofNat, BitVec.toNat_ofNat, hlow]

theorem decLookup_le {p : Params} (hp : p.ok = true) {c : Code} (hc : invalidCode p c = false) :
    (p.decLookup c).toNat ≤ 84 := by
  obtain ⟨-, hne⟩ := (invalidCode_eq_false_iff p c).mp hc
  rw [Params.decLookup, Params.decLut_le_iff_mem hp]
  by_contra h
  exact hne (Params.decLut_of_not_mem h)

/-- The digit registers of a 32-bit value hold digits. -/
theorem areDigits_divideChain {v : Nat} (hv : v < 2 ^ 32) : ((divideChain v).map (BitVec.ofNat 8)).areDigits := by
  have hdigits := divideChain_map_toNat hv
  have hle : (divideChain v).Forall (· ≤ 84) := by
    obtain ⟨h0, h1, h2, h3, h4⟩ := divideChain_le hv
    exact ⟨by omega, h1, h2, h3, h4⟩
  rw [← hdigits] at hle
  exact hle

/-- Encoding the bytes of a valid group gives the group back exactly when it is canonical: its numeral is unique, and
truncation would change its value. -/
theorem encodeGroup_eq_iff_canonical {p : Params} (hp : p.ok = true) {g : CharGroup Code}
    (hg : g.Forall fun c => invalidCode p c = false) :
    encodeGroup p (decodeGroup p g) = g.map (BitVec.ofNat 8) ↔
      blockSum (g.map p.decLookup) < 2 ^ 32 := by
  have hvalue := blockValue_toNat (blockSum (g.map p.decLookup))
  rw [decodeGroup]
  generalize blockValue (blockSum (g.map p.decLookup)) = v at hvalue ⊢
  constructor
  · intro h
    have hback : ((g.map (BitVec.ofNat 8)).map BitVec.toNat).map p.decLookup = g.map p.decLookup := by
      rw [CharGroup.map_map, CharGroup.map_map]
      refine CharGroup.map_congr (hg.imp fun c hc => ?_)
      obtain ⟨hlt, -⟩ := (invalidCode_eq_false_iff p c).mp hc
      have hbyte : c % 2 ^ 8 = c := Nat.mod_eq_of_lt (Nat.lt_trans hlt (by decide))
      simp only [Function.comp_apply, BitVec.toNat_ofNat, hbyte]
    have hsame : g.map p.decLookup = (divideChain v.toNat).map (BitVec.ofNat 8) := by
      rw [← hback, ← h, decLookup_encodeGroup hp, wordOf_bytesOf]
    rw [hsame, blockSum_divideChain v.isLt]
    exact v.isLt
  · intro h
    have hdigits : (g.map p.decLookup).areDigits := hg.imp fun c hc => decLookup_le hp hc
    have hsum : v.toNat = blockSum (g.map p.decLookup) := hvalue.trans (Nat.mod_eq_of_lt h)
    have hsame : (divideChain v.toNat).map (BitVec.ofNat 8) = g.map p.decLookup :=
      blockSum_injective (areDigits_divideChain v.isLt) hdigits ((blockSum_divideChain v.isLt).trans hsum)
    rw [encodeGroup, wordOf_bytesOf, ← divideChain_map_toNat v.isLt, hsame]
    exact CharGroup.map_congr (hg.imp fun c hc => encLut_decLookup hp hc)

/-! The two round trips -/

/-- The units of a text block that lies within the text. -/
theorem getElem?_textGroup {t : List Code} {b j : Nat} (hb : b < t.length / 5) (hj : j < 5) :
    (textGroup t b).toList[j]? = t[5 * b + j]? := by
  have hin : ∀ k < 5, t[5 * b + k]? = some (t.getD (5 * b + k) 0) := fun k hk => by
    rw [List.getD_eq_getElem _ _ (by omega), List.getElem?_eq_getElem (by omega)]
  rw [hin j hj]
  interval_cases j <;> rfl

/-- The units of a binary block that lies within the byte sequence. -/
theorem getElem?_byteQuad {x : List Byte} {b j : Nat} (hb : b < x.length / 4) (hj : j < 4) :
    (byteQuad x b).toList[j]? = x[4 * b + j]? := by
  have hin : ∀ k < 4, x[4 * b + k]? = some (x.getD (4 * b + k) 0) := fun k hk => by
    rw [List.getD_eq_getElem _ _ (by omega), List.getElem?_eq_getElem (by omega)]
  rw [hin j hj]
  interval_cases j <;> rfl

theorem textGroup_flatMap (f : Nat → CharGroup Code) {n b : Nat} (hb : b < n) :
    textGroup ((List.range n).flatMap fun b => (f b).toList) b = f b := by
  have hunit := fun j (hj : j < 5) => getElem?_flatMap_range (fun b => CharGroup.length_toList (f b)) hb hj
  have h0 := hunit 0 (by decide)
  rw [Nat.add_zero] at h0
  simp only [textGroup, List.getD_eq_getElem?_getD, h0, hunit, Nat.reduceLT]
  rfl

theorem byteQuad_flatMap (f : Nat → ByteQuad Byte) {n b : Nat} (hb : b < n) :
    byteQuad ((List.range n).flatMap fun b => (f b).toList) b = f b := by
  have hunit := fun j (hj : j < 4) => getElem?_flatMap_range (fun b => ByteQuad.length_toList (f b)) hb hj
  have h0 := hunit 0 (by decide)
  rw [Nat.add_zero] at h0
  simp only [byteQuad, List.getD_eq_getElem?_getD, h0, hunit, Nat.reduceLT]
  rfl

/-- Settles O45: block by block, the digits of the value through both tables are the digits, and their sum is the
value. -/
theorem decodeOfEncodeIsTheInput : Obligations.DecodeOfEncodeIsTheInput := by
  intro p x hp hlen hcap
  refine ⟨_, encodeCall_eq_ok_iff.mpr ⟨hlen, by omega, rfl⟩, ?_⟩
  generalize hn : x.length / 4 = n
  have hx : x.length = n * 4 := by omega
  have htext : ((List.range n).flatMap fun b => (encodeGroup p (byteQuad x b)).toList).map BitVec.toNat =
      (List.range n).flatMap fun b => ((encodeGroup p (byteQuad x b)).map BitVec.toNat).toList := List.map_flatMap
  have hlength := length_flatMap_range
    (f := fun b => ((encodeGroup p (byteQuad x b)).map BitVec.toNat).toList) (fun _ => CharGroup.length_toList _) n
  rw [htext, decodeCall_eq_ok_iff, hlength, Nat.mul_div_cancel n (by decide)]
  refine ⟨Nat.mul_mod_left n 5, by omega, fun c hc => ?_, ?_⟩
  · rw [← htext] at hc
    obtain ⟨v, hv, rfl⟩ := List.mem_map.mp hc
    obtain ⟨b, -, hvb⟩ := List.mem_flatMap.mp hv
    exact invalidCode_encodeGroup hp _ v hvb
  · refine ((flatMap_range_eq_iff (fun _ => ByteQuad.length_toList _) hx).mpr fun b hb j hj => ?_).symm
    rw [textGroup_flatMap (fun b => (encodeGroup p (byteQuad x b)).map BitVec.toNat) hb, decodeGroup_encodeGroup hp,
      getElem?_byteQuad (by omega) hj]

theorem forall_textGroup {P : Code → Prop} {t : List Code} (h : ∀ c ∈ t, P c) {b : Nat} (hb : b < t.length / 5) :
    (textGroup t b).Forall P := by
  have hunit : ∀ k < 5, P (t.getD (5 * b + k) 0) := fun k hk => by
    rw [List.getD_eq_getElem _ _ (by omega)]
    exact h _ (List.getElem_mem _)
  exact ⟨hunit 0 (by decide), hunit 1 (by decide), hunit 2 (by decide), hunit 3 (by decide), hunit 4 (by decide)⟩

theorem canonicalText_iff (p : Params) (t : List Code) :
    canonicalText p t = true ↔ ∀ b < t.length / 5, blockSum ((textGroup t b).map p.decLookup) < 2 ^ 32 := by
  simp [canonicalText, groupSum_eq]

/-- Settles O46: block by block, the group comes back exactly when its sum is not truncated. -/
theorem encodeOfDecodeIsTheInputIffCanonical : Obligations.EncodeOfDecodeIsTheInputIffCanonical := by
  intro p t x hp hdecode
  obtain ⟨hlen, hcap, hvalid, rfl⟩ := decodeCall_eq_ok_iff.mp hdecode
  rw [encodeCall_eq_ok_iff, length_flatMap_range (fun _ => ByteQuad.length_toList _), canonicalText_iff,
    Nat.mul_div_cancel _ (by decide)]
  have hout : (t.map (BitVec.ofNat 8)).length = t.length / 5 * 5 := by
    rw [List.length_map]
    omega
  have hblock : ∀ b < t.length / 5, ∀ j < 5, (t.map (BitVec.ofNat 8))[5 * b + j]? =
      ((textGroup t b).map (BitVec.ofNat 8)).toList[j]? := fun b hb j hj => by
    rw [List.getElem?_map, ← getElem?_textGroup hb hj, ← List.getElem?_map]
    rfl
  constructor
  · rintro ⟨-, -, h⟩ b hb
    rw [← encodeGroup_eq_iff_canonical hp (forall_textGroup hvalid hb)]
    refine CharGroup.ext_getElem? fun j hj => ?_
    have hunit := (flatMap_range_eq_iff (fun _ => CharGroup.length_toList _) hout).mp h.symm b hb j hj
    rw [byteQuad_flatMap _ hb] at hunit
    exact hunit.trans (hblock b hb j hj)
  · intro h
    refine ⟨Nat.mul_mod_left _ 4, hcap, ((flatMap_range_eq_iff (fun _ => CharGroup.length_toList _) hout).mpr
      fun b hb j hj => ?_).symm⟩
    rw [byteQuad_flatMap _ hb, hblock b hb j hj,
      (encodeGroup_eq_iff_canonical hp (forall_textGroup hvalid hb)).mpr (h b hb)]

end Sys2Proof.Machine
end

section
/-! PROOFS. The engine's turns of a call: its block steps one after the other and the final step
(70_reset_and_hazards.md section 4; the inbox is log entry 7). -/

namespace Sys2Proof.Machine

/-! The inbox -/

/-- The state with another list of turns waiting. -/
def State.withInbox (s : State) (ts : List Turn) : State := { s with inbox := ts }

@[simp] theorem State.withInbox_build (s : State) (ts : List Turn) : (s.withInbox ts).build = s.build := rfl
@[simp] theorem State.withInbox_cmd (s : State) (ts : List Turn) : (s.withInbox ts).cmd = s.cmd := rfl
@[simp] theorem State.withInbox_status (s : State) (ts : List Turn) : (s.withInbox ts).status = s.status := rfl
@[simp] theorem State.withInbox_olen (s : State) (ts : List Turn) : (s.withInbox ts).olen = s.olen := rfl
@[simp] theorem State.withInbox_canary (s : State) (ts : List Turn) : (s.withInbox ts).canary = s.canary := rfl
@[simp] theorem State.withInbox_blk (s : State) (ts : List Turn) : (s.withInbox ts).blk = s.blk := rfl
@[simp] theorem State.withInbox_nblk (s : State) (ts : List Turn) : (s.withInbox ts).nblk = s.nblk := rfl
@[simp] theorem State.withInbox_inbox (s : State) (ts : List Turn) : (s.withInbox ts).inbox = ts := rfl
@[simp] theorem State.withInbox_readText (s : State) (ts : List Turn) (i : Nat) :
    (s.withInbox ts).readText i = s.readText i := rfl
@[simp] theorem State.withInbox_readByte (s : State) (ts : List Turn) (i : Nat) :
    (s.withInbox ts).readByte i = s.readByte i := rfl
@[simp] theorem State.withInbox_withInbox (s : State) (ts us : List Turn) :
    (s.withInbox ts).withInbox us = s.withInbox us := rfl

theorem State.withInbox_self {s : State} {ts : List Turn} (h : s.inbox = ts) : s.withInbox ts = s := h ▸ rfl

/-- The next `k` turns are the engine's: no host item is among the first `k` of the inbox, which may run out. -/
def engineTurns (k : Nat) (ts : List Turn) : Prop := ∀ x ∈ ts.take k, x = .engine

theorem engineTurns_nil (k : Nat) : engineTurns k [] := by simp [engineTurns]

theorem engineTurns_replicate (k : Nat) (ts : List Turn) : engineTurns k (List.replicate k .engine ++ ts) := by
  intro x hx
  rw [List.take_left' List.length_replicate] at hx
  exact List.eq_of_mem_replicate hx

theorem engineTurns.left {j k : Nat} {ts : List Turn} (h : engineTurns (j + k) ts) : engineTurns j ts := fun x hx =>
  h x (List.take_subset_take_left ts (Nat.le_add_right j k) hx)

theorem engineTurns.right {j k : Nat} {ts : List Turn} (h : engineTurns (j + k) ts) : engineTurns k (ts.drop j) :=
  fun x hx => h x (by rw [List.take_add]; exact List.mem_append_right _ hx)

theorem State.turn_of_engineTurns {s : State} (h : engineTurns 1 s.inbox) :
    s.turn = (.sel s.sel, s.withInbox (s.inbox.drop 1)) := by
  cases hin : s.inbox with
  | nil => rw [s.turn_of_empty hin, List.drop_nil, State.withInbox_self hin]
  | cons x rest =>
    obtain rfl : x = .engine := h x (by simp [hin])
    exact State.turn_of_engine hin

/-- Turns given to an idle engine are taken from the inbox and change nothing else. -/
theorem steps_idle {s : State} (hidle : s.status.busy = false) {k : Nat} (h : engineTurns k s.inbox) :
    steps k s = .next (s.withInbox (s.inbox.drop k)) := by
  induction k with
  | zero => rw [List.drop_zero, State.withInbox_self rfl, steps_zero]
  | succ k ih =>
    have hlast : engineTurns 1 (s.withInbox (s.inbox.drop k)).inbox := h.right
    have hstep := step_of_idleTurn (State.turn_of_engineTurns hlast) hidle
    rw [steps_add k 1 (ih h.left), steps_succ 0 hstep, steps_zero]
    simp

/-! The engine's steps -/

/-- What an enabled block step leaves, in the direction of the call. -/
def State.block (s : State) : State := if cmdDir s.cmd then s.encodeBlock else s.decodeBlock

/-- What an enabled final step leaves, in the direction of the call. -/
def State.callEnd (s : State) : State := if cmdDir s.cmd then succeed (5 * s.nblk) s else s.decodeEnd

/-- The state after `k` block steps. -/
def State.blocks (s : State) : Nat → State
  | 0 => s
  | k + 1 => (s.blocks k).block

theorem State.block_of_encode {s : State} (hdir : cmdDir s.cmd = true) : s.block = s.encodeBlock := if_pos hdir

theorem State.block_of_decode {s : State} (hdir : cmdDir s.cmd = false) : s.block = s.decodeBlock := by
  simp [State.block, hdir]

theorem State.callEnd_of_encode {s : State} (hdir : cmdDir s.cmd = true) : s.callEnd = succeed (5 * s.nblk) s :=
  if_pos hdir

theorem State.callEnd_of_decode {s : State} (hdir : cmdDir s.cmd = false) : s.callEnd = s.decodeEnd := by
  simp [State.callEnd, hdir]

@[simp] theorem State.block_build (s : State) : s.block.build = s.build := by rw [State.block]; split <;> rfl
@[simp] theorem State.block_cmd (s : State) : s.block.cmd = s.cmd := by rw [State.block]; split <;> rfl
@[simp] theorem State.block_status (s : State) : s.block.status = s.status := by rw [State.block]; split <;> rfl
@[simp] theorem State.block_blk (s : State) : s.block.blk = s.blk + 1 := by rw [State.block]; split <;> rfl
@[simp] theorem State.block_nblk (s : State) : s.block.nblk = s.nblk := by rw [State.block]; split <;> rfl

theorem State.block_withInbox (s : State) (ts : List Turn) : (s.withInbox ts).block = s.block.withInbox ts := by
  cases hdir : cmdDir s.cmd with
  | true => rw [State.block_of_encode hdir, State.block_of_encode (s := s.withInbox ts) hdir]; rfl
  | false => rw [State.block_of_decode hdir, State.block_of_decode (s := s.withInbox ts) hdir]; rfl

@[simp] theorem State.blocks_zero (s : State) : s.blocks 0 = s := rfl
theorem State.blocks_succ (s : State) (k : Nat) : s.blocks (k + 1) = (s.blocks k).block := rfl

@[simp] theorem State.blocks_build (s : State) (k : Nat) : (s.blocks k).build = s.build := by
  induction k <;> simp [State.blocks_succ, *]

@[simp] theorem State.blocks_cmd (s : State) (k : Nat) : (s.blocks k).cmd = s.cmd := by
  induction k <;> simp [State.blocks_succ, *]

@[simp] theorem State.blocks_status (s : State) (k : Nat) : (s.blocks k).status = s.status := by
  induction k <;> simp [State.blocks_succ, *]

@[simp] theorem State.blocks_blk (s : State) (k : Nat) : (s.blocks k).blk = s.blk + k := by
  induction k with
  | zero => rfl
  | succ k ih => rw [State.blocks_succ, State.block_blk, ih, Nat.add_assoc]

@[simp] theorem State.blocks_nblk (s : State) (k : Nat) : (s.blocks k).nblk = s.nblk := by
  induction k <;> simp [State.blocks_succ, *]

/-- A turn of the engine while blocks are left runs the block step of the call's direction (30_encoding.md R60). -/
theorem step_block {s : State} (hturn : engineTurns 1 s.inbox) (hbusy : s.status.busy = true) (hleft : s.blk < s.nblk) :
    step s = .next (s.block.withInbox (s.inbox.drop 1)) := by
  have htaken := State.turn_of_engineTurns hturn
  obtain ⟨-, hdecblk, -, hencblk, -⟩ := selectorSelectsTheEnabledStep s hleft.le
  rw [← State.block_withInbox]
  cases hdir : cmdDir s.cmd with
  | false =>
    obtain ⟨-, hdecode, hen⟩ := hdecblk hbusy hdir hleft
    rw [step_of_turn htaken hdecode, State.block_of_decode (s := s.withInbox (s.inbox.drop 1)) hdir]
    exact exec_decblk_of_enabled hen
  | true =>
    obtain ⟨-, hdecode, hen⟩ := hencblk hbusy hdir hleft
    rw [step_of_turn htaken hdecode, State.block_of_encode (s := s.withInbox (s.inbox.drop 1)) hdir]
    exact exec_encblk_of_enabled hen

/-- A turn of the engine with no block left runs the final step of the call's direction (30_encoding.md R60). -/
theorem step_callEnd {s : State} (hturn : engineTurns 1 s.inbox) (hbusy : s.status.busy = true)
    (hlast : s.blk = s.nblk) : step s = .next (s.withInbox (s.inbox.drop 1)).callEnd := by
  have htaken := State.turn_of_engineTurns hturn
  obtain ⟨-, -, hdecfin, -, hencfin, -⟩ := selectorSelectsTheEnabledStep s hlast.le
  cases hdir : cmdDir s.cmd with
  | false =>
    obtain ⟨-, hdecode, hen⟩ := hdecfin hbusy hdir hlast
    rw [step_of_turn htaken hdecode, exec_decfin_eq, if_pos (by exact hen),
      State.callEnd_of_decode (s := s.withInbox (s.inbox.drop 1)) hdir]
  | true =>
    obtain ⟨-, hdecode, hen⟩ := hencfin hbusy hdir hlast
    rw [step_of_turn htaken hdecode, State.callEnd_of_encode (s := s.withInbox (s.inbox.drop 1)) hdir]
    exact exec_encfin_of_enabled hen

/-- The block steps of a running call. -/
theorem steps_blocks {s : State} (hbusy : s.status.busy = true) {k : Nat} (hturns : engineTurns k s.inbox)
    (hk : s.blk + k ≤ s.nblk) : steps k s = .next ((s.blocks k).withInbox (s.inbox.drop k)) := by
  induction k with
  | zero => rw [List.drop_zero, State.blocks_zero, State.withInbox_self rfl, steps_zero]
  | succ k ih =>
    have hlast : engineTurns 1 ((s.blocks k).withInbox (s.inbox.drop k)).inbox := hturns.right
    have hstep := step_block hlast (by simpa using hbusy) (by simp; omega)
    rw [steps_add k 1 (ih hturns.left (by omega)), steps_succ 0 hstep, steps_zero, State.block_withInbox]
    simp [State.blocks_succ]

/-- A running call to its end. -/
theorem steps_call {s : State} (hbusy : s.status.busy = true) {k : Nat} (hturns : engineTurns (k + 1) s.inbox)
    (hk : s.blk + k = s.nblk) :
    steps (k + 1) s = .next ((s.blocks k).withInbox (s.inbox.drop (k + 1))).callEnd := by
  have hlast : engineTurns 1 ((s.blocks k).withInbox (s.inbox.drop k)).inbox := hturns.right
  have hstep := step_callEnd hlast (by simpa using hbusy) (by simpa using hk)
  rw [steps_add k 1 (steps_blocks hbusy hturns.left hk.le), steps_succ 0 hstep, steps_zero]
  simp

/-- The final step ends the call, well or not. -/
theorem State.callEnd_status (s : State) : s.callEnd.status.busy = false ∧ s.callEnd.status.done = true := by
  rw [State.callEnd, State.decodeEnd]
  split
  · exact ⟨rfl, rfl⟩
  · split <;> exact ⟨rfl, rfl⟩

/-- Settles O41: a block step raises BLK by one and keeps STATUS, and the final step follows when BLK meets NBLK. -/
theorem runningCallEndsAfterItsBlocks : Obligations.RunningCallEndsAfterItsBlocks := by
  intro s hinv hbusy hin
  have hblk := hinv.blk
  have hturns : ∀ k, engineTurns k s.inbox := fun k => hin ▸ engineTurns_nil k
  refine ⟨⟨_, steps_call hbusy (hturns _) (by omega), State.callEnd_status _⟩, fun k hk => ?_⟩
  exact ⟨_, steps_blocks hbusy (hturns k) (by omega), by simpa using hbusy, by simp⟩

end Sys2Proof.Machine
end

section
/-! PROOFS. The steps of a call compute the call contract (40_decode.md section 4, 41_encode.md section 4). -/

namespace Sys2Proof.Machine

/-! Buffers as texts and byte sequences -/

/-- The first `n` units of TBUF. -/
def State.text (s : State) (n : Nat) : List Code := (List.range n).map s.readText

/-- The first `n` units of BBUF. -/
def State.bytes (s : State) (n : Nat) : List Byte := (List.range n).map s.readByte

@[simp] theorem State.length_text (s : State) (n : Nat) : (s.text n).length = n := by simp [State.text]

@[simp] theorem State.length_bytes (s : State) (n : Nat) : (s.bytes n).length = n := by simp [State.bytes]

theorem State.getElem?_text (s : State) {n i : Nat} (h : i < n) : (s.text n)[i]? = some (s.readText i) := by
  simp [State.text, h]

theorem State.getElem?_bytes (s : State) {n i : Nat} (h : i < n) : (s.bytes n)[i]? = some (s.readByte i) := by
  simp [State.bytes, h]

/-- The first `k` text blocks, one after the other. -/
theorem State.text_eq_blocks (s : State) (k : Nat) :
    s.text (5 * k) = (List.range k).flatMap fun b => (s.rdTextBlock b).toList := by
  refine ((flatMap_range_eq_iff (fun _ => CharGroup.length_toList _) (by simp [Nat.mul_comm])).mpr
    fun b hb j hj => ?_).symm
  rw [s.getElem?_text (by omega)]
  interval_cases j <;> rfl

/-- The first `k` binary blocks, one after the other. -/
theorem State.bytes_eq_blocks (s : State) (k : Nat) :
    s.bytes (4 * k) = (List.range k).flatMap fun b => (s.rdBinBlock b).toList := by
  refine ((flatMap_range_eq_iff (fun _ => ByteQuad.length_toList _) (by simp [Nat.mul_comm])).mpr
    fun b hb j hj => ?_).symm
  rw [s.getElem?_bytes (by omega)]
  interval_cases j <;> rfl

theorem State.textGroup_text (s : State) {k b : Nat} (hb : b < k) : textGroup (s.text (5 * k)) b = s.rdTextBlock b := by
  rw [s.text_eq_blocks, textGroup_flatMap _ hb]

theorem State.byteQuad_bytes (s : State) {k b : Nat} (hb : b < k) : byteQuad (s.bytes (4 * k)) b = s.rdBinBlock b := by
  rw [s.bytes_eq_blocks, byteQuad_flatMap _ hb]

theorem flatMap_range_congr {α : Type} {f f' : Nat → List α} {n : Nat} (h : ∀ b < n, f b = f' b) :
    (List.range n).flatMap f = (List.range n).flatMap f' :=
  List.flatMap_congr fun b hb => h b (List.mem_range.mp hb)

/-- A text block is five units. -/
theorem State.rdTextBlock_congr {s t : State} {b : Nat} (h : ∀ j < 5, t.readText (5 * b + j) = s.readText (5 * b + j)) :
    t.rdTextBlock b = s.rdTextBlock b := by
  have h0 := h 0 (by decide)
  rw [Nat.add_zero] at h0
  simp only [State.rdTextBlock, h0, h, Nat.reduceLT]

/-- A binary block is four units. -/
theorem State.rdBinBlock_congr {s t : State} {b : Nat} (h : ∀ j < 4, t.readByte (4 * b + j) = s.readByte (4 * b + j)) :
    t.rdBinBlock b = s.rdBinBlock b := by
  have h0 := h 0 (by decide)
  rw [Nat.add_zero] at h0
  simp only [State.rdBinBlock, h0, h, Nat.reduceLT]

/-! The block steps of a decode call -/

section Decode

variable {s : State} (hdir : cmdDir s.cmd = false)
include hdir

theorem State.blocks_succ_of_decode (k : Nat) : s.blocks (k + 1) = (s.blocks k).decodeBlock := by
  rw [State.blocks_succ, State.block_of_decode (by rw [State.blocks_cmd, hdir])]

theorem State.readText_blocks_of_decode (k i : Nat) : (s.blocks k).readText i = s.readText i := by
  induction k with
  | zero => rfl
  | succ k ih => rw [State.blocks_succ_of_decode hdir, ← ih]; rfl

theorem State.readByte_blocks_of_decode (k : Nat) {a : Nat} (h : a < 4 * s.blk ∨ 4 * (s.blk + k) ≤ a) :
    (s.blocks k).readByte a = s.readByte a := by
  induction k with
  | zero => rfl
  | succ k ih =>
    rw [State.blocks_succ_of_decode hdir, State.readByte_decodeBlock_of_outside _ (by rw [State.blocks_blk]; omega),
      ih (by omega)]

/-- Each block step decodes the text block at BLK into the binary block at BLK. -/
theorem State.rdBinBlock_blocks_of_decode {k b : Nat} (hlow : s.blk ≤ b) (hhigh : b < s.blk + k) :
    (s.blocks k).rdBinBlock b = decodeGroup s.build (s.rdTextBlock b) := by
  induction k with
  | zero => omega
  | succ k ih =>
    rw [State.blocks_succ_of_decode hdir]
    rcases (show b < s.blk + k ∨ b = s.blk + k by omega) with hlt | heq
    · rw [← ih hlt]
      refine State.rdBinBlock_congr fun j hj => State.readByte_decodeBlock_of_outside _ ?_
      rw [State.blocks_blk]
      omega
    · have hblk : (s.blocks k).blk = b := by rw [State.blocks_blk, heq]
      have htext : (s.blocks k).rdTextBlock b = s.rdTextBlock b :=
        State.rdTextBlock_congr fun j _ => State.readText_blocks_of_decode hdir k _
      rw [← hblk, State.rdBinBlock_decodeBlock, State.blockDigits, hblk, htext, State.blocks_build]
      rfl

/-- CANARY is tainted after the block steps exactly when it was before or an invalid character was read
(40_decode.md R80). -/
theorem State.taint_blocks_of_decode (hp : s.build.ok = true) (hblk : s.blk = 0) (k : Nat) :
    taint (s.blocks k).canary = (taint s.canary || (s.text (5 * k)).any (invalidCode s.build)) := by
  rw [s.text_eq_blocks, List.any_flatMap]
  induction k with
  | zero => simp
  | succ k ih =>
    have hat : (s.blocks k).blk = k := by rw [State.blocks_blk, hblk, Nat.zero_add]
    have htext : (s.blocks k).rdTextBlock k = s.rdTextBlock k :=
      State.rdTextBlock_congr fun j _ => State.readText_blocks_of_decode hdir k _
    rw [State.blocks_succ_of_decode hdir, State.decodeBlock_canary, State.blockDigits, hat, htext, State.blocks_build,
      taint_accumulate hp, ih, List.range_succ, List.any_append]
    simp [CharGroup.toList, Bool.or_assoc]

/-- The block steps write the decoded blocks one after the other. -/
theorem State.bytes_blocks_of_decode (hblk : s.blk = 0) (k : Nat) : (s.blocks k).bytes (4 * k) =
    (List.range k).flatMap fun b => (decodeGroup s.build (s.rdTextBlock b)).toList := by
  rw [State.bytes_eq_blocks]
  refine flatMap_range_congr fun b hb => ?_
  rw [State.rdBinBlock_blocks_of_decode hdir (by omega) (by omega)]

end Decode

/-! The block steps of an encode call -/

section Encode

variable {s : State} (hdir : cmdDir s.cmd = true)
include hdir

theorem State.blocks_succ_of_encode (k : Nat) : s.blocks (k + 1) = (s.blocks k).encodeBlock := by
  rw [State.blocks_succ, State.block_of_encode (by rw [State.blocks_cmd, hdir])]

theorem State.readByte_blocks_of_encode (k i : Nat) : (s.blocks k).readByte i = s.readByte i := by
  induction k with
  | zero => rfl
  | succ k ih => rw [State.blocks_succ_of_encode hdir, ← ih]; rfl

theorem State.readText_blocks_of_encode (k : Nat) {a : Nat} (h : a < 5 * s.blk ∨ 5 * (s.blk + k) ≤ a) :
    (s.blocks k).readText a = s.readText a := by
  induction k with
  | zero => rfl
  | succ k ih =>
    rw [State.blocks_succ_of_encode hdir, State.readText_encodeBlock_of_outside _ (by rw [State.blocks_blk]; omega),
      ih (by omega)]

/-- Each block step encodes the binary block at BLK into the text block at BLK. -/
theorem State.rdTextBlock_blocks_of_encode {k b : Nat} (hlow : s.blk ≤ b) (hhigh : b < s.blk + k) :
    (s.blocks k).rdTextBlock b = (encodeGroup s.build (s.rdBinBlock b)).map BitVec.toNat := by
  induction k with
  | zero => omega
  | succ k ih =>
    rw [State.blocks_succ_of_encode hdir]
    rcases (show b < s.blk + k ∨ b = s.blk + k by omega) with hlt | heq
    · rw [← ih hlt]
      refine State.rdTextBlock_congr fun j hj => State.readText_encodeBlock_of_outside _ ?_
      rw [State.blocks_blk]
      omega
    · have hblk : (s.blocks k).blk = b := by rw [State.blocks_blk, heq]
      have hbytes : (s.blocks k).rdBinBlock b = s.rdBinBlock b :=
        State.rdBinBlock_congr fun j _ => State.readByte_blocks_of_encode hdir k _
      rw [← hblk, State.rdTextBlock_encodeBlock, State.encodeChars, State.encodeValue, hblk, hbytes, State.blocks_build]
      rfl

/-- The block steps write the encoded blocks one after the other. -/
theorem State.text_blocks_of_encode (hblk : s.blk = 0) (k : Nat) : (s.blocks k).text (5 * k) =
    ((List.range k).flatMap fun b => (encodeGroup s.build (s.rdBinBlock b)).toList).map BitVec.toNat := by
  rw [State.text_eq_blocks, List.map_flatMap]
  refine flatMap_range_congr fun b hb => ?_
  rw [State.rdTextBlock_blocks_of_encode hdir (by omega) (by omega)]
  rfl

end Encode

/-! Whole calls -/

/-- The engine's turns that a call of `k` blocks needs after START: none when START fails it. -/
def callTurns {α : Type} (r : CallResult α) (k : Nat) : Nat :=
  match r with
  | .ok _ => k + 1
  | .err .character => k + 1
  | .err _ => 0

/-- What a decode call of `n` units from `s` leaves in `t` (40_decode.md R82). -/
structure Decoded (s t : State) (n : BitVec 31) : Prop where
  ok : ∀ out, decodeCall s.build (s.text n.toNat) = .ok out →
    t.status = Status.succeeded ∧ t.olen.toNat = out.length ∧ ∀ i < out.length, out[i]? = some (t.readByte i)
  err : ∀ k, decodeCall s.build (s.text n.toNat) = .err k → t.status = Status.failed k ∧ t.olen = 0
  build : t.build = s.build
  cmd : t.cmd = commandWord false n
  text : ∀ i, t.readText i = s.readText i
  bytes : ∀ i, 4 * (n.toNat / 5) ≤ i → t.readByte i = s.readByte i

/-- What an encode call of `n` units from `s` leaves in `t` (41_encode.md R99). -/
structure Encoded (s t : State) (n : BitVec 31) : Prop where
  ok : ∀ out, encodeCall s.build (s.bytes n.toNat) = .ok out →
    t.status = Status.succeeded ∧ t.olen.toNat = out.length ∧
      ∀ i < out.length, (out[i]?).map BitVec.toNat = some (t.readText i)
  err : ∀ k, encodeCall s.build (s.bytes n.toNat) = .err k →
    t.status = Status.failed k ∧ t.olen = 0 ∧ ∀ i, t.readText i = s.readText i
  build : t.build = s.build
  cmd : t.cmd = commandWord true n
  bytes : ∀ i, t.readByte i = s.readByte i
  text : ∀ i, 5 * (n.toNat / 4) ≤ i → t.readText i = s.readText i

/-- START takes the host's turn. -/
theorem step_start {s : State} {dir : Bool} {n : BitVec 31} {rest : List Turn}
    (hin : s.inbox = .host (.cmd (commandWord dir n)) :: rest) :
    step s = .next (start (commandWord dir n) (s.withInbox rest)) := by
  rw [step_of_turn (State.turn_of_host hin) (decode_commandWord dir n)]
  cases dir <;> rfl

/-- A call that START begins (42_host_interface.md R110). -/
def State.begun (s : State) (w : Word) (k : Nat) : State :=
  { s with cmd := w, olen := 0, canary := 0, blk := 0, nblk := k, status := Status.running }

/-- A call that START fails (42_host_interface.md R110). -/
def State.rejected (s : State) (w : Word) (c : Cause) : State :=
  { s with cmd := w, olen := 0, canary := 0, blk := 0, nblk := 0, status := Status.failed c }

section Start

variable {s : State} {dir : Bool} {n : BitVec 31} (hidle : s.status.busy = false)
include hidle

theorem start_eq_begun (hlen : n.toNat % unitOf dir = 0) (hcap : n.toNat / unitOf dir ≤ s.build.maxBlocks) :
    start (commandWord dir n) s = s.begun (commandWord dir n) (n.toNat / unitOf dir) := by
  rw [start_of_fitting hidle (by simpa using hlen) (by simpa using hcap), cmdLen_commandWord, cmdDir_commandWord]
  rfl

theorem start_eq_rejected_length (hlen : n.toNat % unitOf dir ≠ 0) :
    start (commandWord dir n) s = s.rejected (commandWord dir n) .length :=
  start_of_misaligned hidle (by simpa using hlen)

theorem start_eq_rejected_capacity (hlen : n.toNat % unitOf dir = 0) (hcap : s.build.maxBlocks < n.toNat / unitOf dir) :
    start (commandWord dir n) s = s.rejected (commandWord dir n) .capacity :=
  start_of_overCapacity hidle (by simpa using hlen) (by simpa using hcap)

end Start

theorem steps_begun {s : State} {w : Word} {k : Nat} (hturns : engineTurns (k + 1) s.inbox) :
    steps (k + 1) (s.begun w k) = .next (((s.begun w k).blocks k).withInbox (s.inbox.drop (k + 1))).callEnd :=
  steps_call (s := s.begun w k) rfl hturns (Nat.zero_add k)

/-- DecodeCall of whole blocks within the capacity. -/
theorem decodeCall_text {s : State} {k : Nat} (hcap : k ≤ s.build.maxBlocks) :
    decodeCall s.build (s.text (5 * k)) =
      if (s.text (5 * k)).any (invalidCode s.build) then .err .character
      else .ok ((List.range k).flatMap fun b => (decodeGroup s.build (s.rdTextBlock b)).toList) := by
  rcases decodeCall_cases s.build (s.text (5 * k)) with ⟨hlen, -⟩ | ⟨-, hlarge, -⟩ | ⟨-, -, hany, h⟩ | ⟨-, -, hany, h⟩
  · simp at hlen
  · rw [s.length_text] at hlarge
    omega
  · rw [h, if_pos hany]
  · rw [h, if_neg (by simp [hany]), s.length_text, Nat.mul_div_cancel_left k (by decide)]
    exact congrArg _ (flatMap_range_congr fun b hb => by rw [s.textGroup_text hb])

/-- EncodeCall of whole blocks within the capacity. -/
theorem encodeCall_bytes {s : State} {k : Nat} (hcap : k ≤ s.build.maxBlocks) :
    encodeCall s.build (s.bytes (4 * k)) =
      .ok ((List.range k).flatMap fun b => (encodeGroup s.build (s.rdBinBlock b)).toList) := by
  rcases encodeCall_cases s.build (s.bytes (4 * k)) with ⟨hlen, -⟩ | ⟨-, hlarge, -⟩ | ⟨-, -, h⟩
  · simp at hlen
  · rw [s.length_bytes] at hlarge
    omega
  · rw [h, s.length_bytes, Nat.mul_div_cancel_left k (by decide)]
    exact congrArg _ (flatMap_range_congr fun b hb => by rw [s.byteQuad_bytes hb])

/-- DECFIN after all blocks of a decode call of `n` units gives the call's outcome. -/
theorem decoded_decodeEnd {s v : State} {n : BitVec 31} {k : Nat} (hp : s.build.ok = true) (hn : n.toNat = 5 * k)
    (hcap : k ≤ s.build.maxBlocks) (hbuild : v.build = s.build) (hcmd : v.cmd = commandWord false n)
    (hnblk : v.nblk = k) (htext : ∀ i, v.readText i = s.readText i)
    (hframe : ∀ i, 4 * k ≤ i → v.readByte i = s.readByte i)
    (htaint : taint v.canary = (s.text (5 * k)).any (invalidCode s.build))
    (hbytes : v.bytes (4 * k) = (List.range k).flatMap fun b => (decodeGroup s.build (s.rdTextBlock b)).toList) :
    Decoded s v.decodeEnd n := by
  obtain ⟨-, hmax⟩ := Params.maxBlocks_of_ok hp
  have hblocks : n.toNat / 5 = k := by omega
  have hcall := decodeCall_text hcap
  rw [← hbytes] at hcall
  subst hnblk
  cases hany : (s.text (5 * v.nblk)).any (invalidCode s.build) with
  | false =>
    rw [if_neg (by simp [hany])] at hcall
    rw [State.decodeEnd_of_clean (htaint.trans hany)]
    refine { ok := fun out h => ?_, err := fun c h => ?_, build := hbuild, cmd := hcmd, text := htext
             bytes := fun i hi => hframe i (hblocks ▸ hi) }
    · rw [hn, hcall] at h
      cases h
      refine ⟨rfl, ?_, fun i hi => v.getElem?_bytes (by rwa [v.length_bytes] at hi)⟩
      rw [succeed_olen, BitVec.toNat_ofNat, v.length_bytes, Nat.mod_eq_of_lt (by omega)]
    · rw [hn, hcall] at h
      cases h
  | true =>
    rw [if_pos hany] at hcall
    rw [State.decodeEnd_of_taint (htaint.trans hany)]
    refine { ok := fun out h => ?_, err := fun c h => ?_, build := hbuild, cmd := hcmd, text := htext
             bytes := fun i hi => (v.readByte_scrambleBytes_of_le (hblocks ▸ hi)).trans (hframe i (hblocks ▸ hi)) }
    · rw [hn, hcall] at h
      cases h
    · rw [hn, hcall] at h
      cases h
      exact ⟨rfl, rfl⟩

/-- ENCFIN after all blocks of an encode call of `n` units gives the call's outcome. -/
theorem encoded_succeed {s v : State} {n : BitVec 31} {k : Nat} (hp : s.build.ok = true) (hn : n.toNat = 4 * k)
    (hcap : k ≤ s.build.maxBlocks) (hbuild : v.build = s.build) (hcmd : v.cmd = commandWord true n)
    (hbytes : ∀ i, v.readByte i = s.readByte i) (hframe : ∀ i, 5 * k ≤ i → v.readText i = s.readText i)
    (htext : v.text (5 * k) =
      ((List.range k).flatMap fun b => (encodeGroup s.build (s.rdBinBlock b)).toList).map BitVec.toNat) :
    Encoded s (succeed (5 * k) v) n := by
  obtain ⟨-, hmax⟩ := Params.maxBlocks_of_ok hp
  have hblocks : n.toNat / 4 = k := by omega
  have hcall := encodeCall_bytes hcap
  refine { ok := fun out h => ?_, err := fun c h => ?_, build := hbuild, cmd := hcmd, bytes := hbytes
           text := fun i hi => hframe i (hblocks ▸ hi) }
  · rw [hn, hcall] at h
    cases h
    have hlen := congrArg List.length htext
    rw [v.length_text, List.length_map] at hlen
    refine ⟨rfl, ?_, fun i hi => ?_⟩
    · rw [succeed_olen, BitVec.toNat_ofNat, ← hlen, Nat.mod_eq_of_lt (by omega)]
    · rw [← List.getElem?_map, ← htext]
      exact v.getElem?_text (hlen ▸ hi)
  · rw [hn, hcall] at h
    cases h

/-- The final step leaves the inbox. -/
@[simp] theorem State.callEnd_inbox (s : State) : s.callEnd.inbox = s.inbox := by
  rw [State.callEnd, State.decodeEnd]
  split_ifs <;> rfl

theorem decoded_rejected {s : State} {n : BitVec 31} {c : Cause} {rest : List Turn}
    (hcall : decodeCall s.build (s.text n.toNat) = .err c) :
    Decoded s ((s.withInbox rest).rejected (commandWord false n) c) n where
  ok := fun out h => by rw [hcall] at h; cases h
  err := fun k h => by rw [hcall] at h; cases h; exact ⟨rfl, rfl⟩
  build := rfl
  cmd := rfl
  text := fun _ => rfl
  bytes := fun _ _ => rfl

theorem encoded_rejected {s : State} {n : BitVec 31} {c : Cause} {rest : List Turn}
    (hcall : encodeCall s.build (s.bytes n.toNat) = .err c) :
    Encoded s ((s.withInbox rest).rejected (commandWord true n) c) n where
  ok := fun out h => by rw [hcall] at h; cases h
  err := fun k h => by rw [hcall] at h; cases h; exact ⟨rfl, rfl, fun _ => rfl⟩
  build := rfl
  cmd := rfl
  bytes := fun _ => rfl
  text := fun _ _ => rfl

theorem decoded_begun {s : State} {n : BitVec 31} {k : Nat} {rest us : List Turn} (hp : s.build.ok = true)
    (hn : n.toNat = 5 * k) (hcap : k ≤ s.build.maxBlocks) :
    Decoded s ((((s.withInbox rest).begun (commandWord false n) k).blocks k).withInbox us).callEnd n := by
  have hdir : cmdDir ((s.withInbox rest).begun (commandWord false n) k).cmd = false := cmdDir_commandWord false n
  rw [State.callEnd_of_decode (by simpa using hdir)]
  refine decoded_decodeEnd hp hn hcap (by simp; rfl) (by simp; rfl) (by simp; rfl) (fun i => ?_) (fun i hi => ?_) ?_ ?_
  · exact State.readText_blocks_of_decode hdir k i
  · exact State.readByte_blocks_of_decode hdir k (.inr (by simpa [State.begun] using hi))
  · have hclear : taint ((s.withInbox rest).begun (commandWord false n) k).canary = false := by
      simp [State.begun, taint]
    rw [State.withInbox_canary, State.taint_blocks_of_decode hdir hp rfl k, hclear, Bool.false_or]
    rfl
  · exact State.bytes_blocks_of_decode hdir rfl k

theorem encoded_begun {s : State} {n : BitVec 31} {k : Nat} {rest us : List Turn} (hp : s.build.ok = true)
    (hn : n.toNat = 4 * k) (hcap : k ≤ s.build.maxBlocks) :
    Encoded s ((((s.withInbox rest).begun (commandWord true n) k).blocks k).withInbox us).callEnd n := by
  have hdir : cmdDir ((s.withInbox rest).begun (commandWord true n) k).cmd = true := cmdDir_commandWord true n
  rw [State.callEnd_of_encode (by simpa using hdir), State.withInbox_nblk, State.blocks_nblk]
  refine encoded_succeed hp hn hcap (by simp; rfl) (by simp; rfl) (fun i => ?_) (fun i hi => ?_) ?_
  · exact State.readByte_blocks_of_encode hdir k i
  · exact State.readText_blocks_of_encode hdir k (.inr (by simpa [State.begun] using hi))
  · exact State.text_blocks_of_encode hdir rfl k

/-- A decode call from START to its end, in as many turns of the engine as its outcome takes. -/
theorem steps_decode {s : State} {n : BitVec 31} {rest : List Turn} (hp : s.build.ok = true)
    (hidle : s.status.busy = false) (hin : s.inbox = .host (.cmd (commandWord false n)) :: rest)
    (hturns : engineTurns (n.toNat / 5 + 1) rest) :
    ∃ t, steps (callTurns (decodeCall s.build (s.text n.toNat)) (n.toNat / 5) + 1) s = .next t ∧ Decoded s t n
      ∧ t.inbox = rest.drop (callTurns (decodeCall s.build (s.text n.toNat)) (n.toNat / 5)) := by
  have hidle' : (s.withInbox rest).status.busy = false := hidle
  have hbegun : n.toNat % 5 = 0 → n.toNat / 5 ≤ s.build.maxBlocks →
      ∃ t, steps (n.toNat / 5 + 1) (start (commandWord false n) (s.withInbox rest)) = .next t ∧ Decoded s t n
        ∧ t.inbox = rest.drop (n.toNat / 5 + 1) := by
    intro hlen hcap
    rw [start_eq_begun (dir := false) hidle' hlen hcap]
    exact ⟨_, steps_begun hturns, decoded_begun hp (by omega) hcap, by simp⟩
  rw [steps_succ _ (step_start hin)]
  have hcases := decodeCall_cases s.build (s.text n.toNat)
  rw [s.length_text] at hcases
  rcases hcases with ⟨hlen, hcall⟩ | ⟨hlen, hcap, hcall⟩ | ⟨hlen, hcap, -, hcall⟩ | ⟨hlen, hcap, -, hcall⟩
  · rw [hcall, start_eq_rejected_length (dir := false) hidle' hlen]
    exact ⟨_, steps_zero _, decoded_rejected hcall, rfl⟩
  · rw [hcall, start_eq_rejected_capacity (dir := false) hidle' hlen hcap]
    exact ⟨_, steps_zero _, decoded_rejected hcall, rfl⟩
  · rw [hcall]
    exact hbegun hlen hcap
  · rw [hcall]
    exact hbegun hlen hcap

/-- An encode call from START to its end, in as many turns of the engine as its outcome takes. -/
theorem steps_encode {s : State} {n : BitVec 31} {rest : List Turn} (hp : s.build.ok = true)
    (hidle : s.status.busy = false) (hin : s.inbox = .host (.cmd (commandWord true n)) :: rest)
    (hturns : engineTurns (n.toNat / 4 + 1) rest) :
    ∃ t, steps (callTurns (encodeCall s.build (s.bytes n.toNat)) (n.toNat / 4) + 1) s = .next t ∧ Encoded s t n
      ∧ t.inbox = rest.drop (callTurns (encodeCall s.build (s.bytes n.toNat)) (n.toNat / 4)) := by
  have hidle' : (s.withInbox rest).status.busy = false := hidle
  rw [steps_succ _ (step_start hin)]
  have hcases := encodeCall_cases s.build (s.bytes n.toNat)
  rw [s.length_bytes] at hcases
  rcases hcases with ⟨hlen, hcall⟩ | ⟨hlen, hcap, hcall⟩ | ⟨hlen, hcap, hcall⟩
  · rw [hcall, start_eq_rejected_length (dir := true) hidle' hlen]
    exact ⟨_, steps_zero _, encoded_rejected hcall, rfl⟩
  · rw [hcall, start_eq_rejected_capacity (dir := true) hidle' hlen hcap]
    exact ⟨_, steps_zero _, encoded_rejected hcall, rfl⟩
  · rw [hcall, start_eq_begun (dir := true) hidle' hlen hcap]
    have hwhole : n.toNat = 4 * (n.toNat / 4) := by omega
    exact ⟨_, steps_begun hturns, encoded_begun hp hwhole hcap, by simp; rfl⟩

/-- Settles O42: the call's outcome decides how many turns the engine takes. -/
theorem decodeStepsComputeDecodeCall : Obligations.DecodeStepsComputeDecodeCall := by
  intro s n hinv hidle hin text
  obtain ⟨t, hsteps, hdone, -⟩ := steps_decode hinv.build hidle hin (engineTurns_nil _)
  constructor
  · intro out hcall
    obtain ⟨hstatus, holen, hbytes⟩ := hdone.ok out hcall
    have hturns : decodeCall s.build (s.text n.toNat) = .ok out := hcall
    rw [hturns] at hsteps
    exact ⟨t, hsteps, hstatus, holen, hbytes, hdone.text, hdone.cmd, hdone.bytes⟩
  · intro k hcall
    obtain ⟨hstatus, holen⟩ := hdone.err k hcall
    have hturns : decodeCall s.build (s.text n.toNat) = .err k := hcall
    rw [hturns] at hsteps
    refine ⟨t, ?_, hstatus, holen, hdone.text, hdone.cmd, hdone.bytes⟩
    cases k <;> exact hsteps

theorem encodeCall_ne_err_character (p : Params) (x : List Byte) : encodeCall p x ≠ .err .character := by
  rcases encodeCall_cases p x with ⟨-, h⟩ | ⟨-, -, h⟩ | ⟨-, -, h⟩ <;> simp [h]

/-- Settles O43: an encode call fails in START or not at all. -/
theorem encodeStepsComputeEncodeCall : Obligations.EncodeStepsComputeEncodeCall := by
  intro s n hinv hidle hin bytes
  obtain ⟨t, hsteps, hdone, -⟩ := steps_encode hinv.build hidle hin (engineTurns_nil _)
  constructor
  · intro out hcall
    obtain ⟨hstatus, holen, htext⟩ := hdone.ok out hcall
    have hturns : encodeCall s.build (s.bytes n.toNat) = .ok out := hcall
    rw [hturns] at hsteps
    exact ⟨t, hsteps, hstatus, holen, htext, hdone.bytes, hdone.cmd, hdone.text⟩
  · intro k hcall
    obtain ⟨hstatus, holen, htext⟩ := hdone.err k hcall
    have hturns : encodeCall s.build (s.bytes n.toNat) = .err k := hcall
    rw [hturns] at hsteps
    refine ⟨t, ?_, hstatus, holen, fun i => ⟨hdone.bytes i, htext i⟩, hdone.cmd⟩
    cases k with
    | character => exact absurd hcall (encodeCall_ne_err_character _ _)
    | _ => exact hsteps

end Sys2Proof.Machine
end

section
/-! PROOFS. Calls seen from the host: the round trip of the machine (41_encode.md section 4), and the programs of
30_encoding.md R66 (42_host_interface.md section 3). -/

namespace Sys2Proof.Machine

theorem State.text_eq {s : State} {t : List Code} (h : ∀ i < t.length, t[i]? = some (s.readText i)) :
    s.text t.length = t := by
  apply List.ext_getElem?
  intro i
  by_cases hi : i < t.length
  · rw [s.getElem?_text hi, h i hi]
  · rw [List.getElem?_eq_none (by simpa using hi), List.getElem?_eq_none (by simpa using hi)]

theorem State.bytes_eq {s : State} {x : List Byte} (h : ∀ i < x.length, x[i]? = some (s.readByte i)) :
    s.bytes x.length = x := by
  apply List.ext_getElem?
  intro i
  by_cases hi : i < x.length
  · rw [s.getElem?_bytes hi, h i hi]
  · rw [List.getElem?_eq_none (by simpa using hi), List.getElem?_eq_none (by simpa using hi)]

@[simp] theorem Status.byte_succeeded : Status.succeeded.byte = 0x02#8 := by decide

/-- Settles O47: the encode call leaves the characters of EncodeCall, DecodeCall of which is the input. -/
theorem machineRoundTrip : Obligations.MachineRoundTrip := by
  intro s n m hinv hidle halign hcap hm hin
  obtain ⟨out, hencode, hdecode⟩ := decodeOfEncodeIsTheInput s.build (s.bytes n.toNat) hinv.build
    (by simpa using halign) (by simpa using hcap)
  obtain ⟨hlen, -⟩ := (callOutputLengths s.build).2 _ _ hencode
  rw [s.length_bytes] at hlen
  obtain ⟨u, hsteps, hencoded, hinbox⟩ := steps_encode hinv.build hidle hin (engineTurns_replicate _ _)
  rw [hencode] at hsteps hinbox
  obtain ⟨hstatus, -, htext⟩ := hencoded.ok out hencode
  have hwritten : u.text m.toNat = out.map BitVec.toNat := by
    have hlength : m.toNat = (out.map BitVec.toNat).length := by
      rw [List.length_map]
      omega
    rw [hlength]
    refine State.text_eq fun i hi => ?_
    rw [List.getElem?_map]
    exact htext i (by simpa using hi)
  have huinv : u.Inv := steps_keep stepKeepsTheInvariant _ hinv hsteps
  have hcall : decodeCall u.build (u.text m.toNat) = .ok (s.bytes n.toNat) := by rw [hencoded.build, hwritten, hdecode]
  obtain ⟨t, hback, hdone, holen, hbytes, -⟩ := (decodeStepsComputeDecodeCall u m huinv (by rw [hstatus]; rfl)
    (hinbox.trans (List.drop_left' (by simp [callTurns])))).1 _ hcall
  have hcount : 2 * (n.toNat / 4 + 2) = (n.toNat / 4 + 1 + 1) + (m.toNat / 5 + 2) := by omega
  refine ⟨t, ?_, ?_, ?_, fun i hi => ?_⟩
  · rw [hcount]
    exact (steps_add _ _ hsteps).trans hback
  · rw [hdone, Status.byte_succeeded]
  · rw [holen, s.length_bytes]
  · have hbyte := hbytes i (by simpa using hi)
    rw [s.getElem?_bytes hi] at hbyte
    exact (Option.some.inj hbyte).symm

/-! The host's programs -/

theorem step_writeText {s : State} {i : Nat} {c : Code} {rest : List Turn} (hidle : s.status.busy = false)
    (hi : i < s.build.textCap) (hc : c < 2 ^ s.build.charW) (hin : s.inbox = .host (.port (.writeText i c)) :: rest) :
    step s = .next ((s.withInbox rest).writeText i c) := by
  have hturn : s.turn = (.host (.port (.writeText i c)), s.withInbox rest) := State.turn_of_host hin
  rw [step_of_turn hturn (i := .wrt i c) rfl, exec_wrt_of_reachable (s := s.withInbox rest) ⟨hidle, hi⟩,
    State.withInbox_build, Nat.mod_eq_of_lt hc]

theorem step_writeByte {s : State} {i : Nat} {v : Byte} {rest : List Turn} (hidle : s.status.busy = false)
    (hi : i < s.build.binCap) (hin : s.inbox = .host (.port (.writeByte i v)) :: rest) :
    step s = .next ((s.withInbox rest).writeByte i v) := by
  have hturn : s.turn = (.host (.port (.writeByte i v)), s.withInbox rest) := State.turn_of_host hin
  rw [step_of_turn hturn (i := .wrb i v) rfl, exec_wrb_of_reachable (s := s.withInbox rest) ⟨hidle, hi⟩]

@[simp] theorem length_ldtFrom (i : Nat) (text : List Code) : (ldtFrom i text).length = text.length := by
  induction text generalizing i with
  | nil => rfl
  | cons c cs ih => rw [ldtFrom, List.length_cons, ih, List.length_cons]

@[simp] theorem length_ldbFrom (i : Nat) (bytes : List Byte) : (ldbFrom i bytes).length = bytes.length := by
  induction bytes generalizing i with
  | nil => rfl
  | cons v vs ih => rw [ldbFrom, List.length_cons, ih, List.length_cons]

@[simp] theorem length_waitFor (k : Nat) : (waitFor k).length = k + 1 := by simp [waitFor]

/-- LDT writes its text from the given index on and leaves the units below. -/
theorem steps_ldtFrom {text : List Code} {rest : List Turn} : ∀ {s : State} {i : Nat}, s.status.busy = false →
    i + text.length ≤ s.build.textCap → (∀ c ∈ text, c < 2 ^ s.build.charW) → s.inbox = ldtFrom i text ++ rest →
    ∃ u, steps text.length s = .next u ∧ u.build = s.build ∧ u.status = s.status ∧ u.inbox = rest
      ∧ (∀ j < text.length, text[j]? = some (u.readText (i + j))) ∧ ∀ j < i, u.readText j = s.readText j := by
  induction text with
  | nil => exact fun _ _ _ hin => ⟨_, steps_zero _, rfl, rfl, hin, nofun, fun _ _ => rfl⟩
  | cons c cs ih =>
    intro s i hidle hcap hfits hin
    rw [List.length_cons] at hcap
    obtain ⟨hc, hcs⟩ := List.forall_mem_cons.mp hfits
    have hroom : i + 1 + cs.length ≤ s.build.textCap := by omega
    have hstep := step_writeText hidle (by omega) hc hin
    obtain ⟨u, hsteps, hbuild, hstatus, hinbox, hunits, hbelow⟩ :=
      ih (s := (s.withInbox (ldtFrom (i + 1) cs ++ rest)).writeText i c) (i := i + 1) hidle hroom hcs rfl
    refine ⟨u, (steps_succ _ hstep).trans hsteps, hbuild, hstatus, hinbox, fun j hj => ?_, fun j hj => ?_⟩
    · cases j with
      | zero =>
        rw [Nat.add_zero, hbelow i (by omega), State.readText_writeText, if_pos rfl]
        rfl
      | succ j => rw [List.getElem?_cons_succ, hunits j (by simpa using hj), Nat.add_right_comm, Nat.add_assoc]
    · rw [hbelow j (by omega), State.readText_writeText, if_neg (by omega), State.withInbox_readText]

/-- LDB writes its bytes from the given index on and leaves the units below. -/
theorem steps_ldbFrom {bytes : List Byte} {rest : List Turn} : ∀ {s : State} {i : Nat}, s.status.busy = false →
    i + bytes.length ≤ s.build.binCap → s.inbox = ldbFrom i bytes ++ rest →
    ∃ u, steps bytes.length s = .next u ∧ u.build = s.build ∧ u.status = s.status ∧ u.inbox = rest
      ∧ (∀ j < bytes.length, bytes[j]? = some (u.readByte (i + j))) ∧ ∀ j < i, u.readByte j = s.readByte j := by
  induction bytes with
  | nil => exact fun _ _ hin => ⟨_, steps_zero _, rfl, rfl, hin, nofun, fun _ _ => rfl⟩
  | cons v vs ih =>
    intro s i hidle hcap hin
    rw [List.length_cons] at hcap
    have hroom : i + 1 + vs.length ≤ s.build.binCap := by omega
    have hstep := step_writeByte hidle (by omega) hin
    obtain ⟨u, hsteps, hbuild, hstatus, hinbox, hunits, hbelow⟩ :=
      ih (s := (s.withInbox (ldbFrom (i + 1) vs ++ rest)).writeByte i v) (i := i + 1) hidle hroom rfl
    refine ⟨u, (steps_succ _ hstep).trans hsteps, hbuild, hstatus, hinbox, fun j hj => ?_, fun j hj => ?_⟩
    · cases j with
      | zero =>
        rw [Nat.add_zero, hbelow i (by omega), State.readByte_writeByte, if_pos rfl]
        rfl
      | succ j => rw [List.getElem?_cons_succ, hunits j (by simpa using hj), Nat.add_right_comm, Nat.add_assoc]
    · rw [hbelow j (by omega), State.readByte_writeByte, if_neg (by omega), State.withInbox_readByte]

theorem callTurns_le {α : Type} (r : CallResult α) (k : Nat) : callTurns r k ≤ k + 1 := by
  match r with
  | .ok _ => exact Nat.le_refl _
  | .err .character => exact Nat.le_refl _
  | .err .none => exact Nat.zero_le _
  | .err .length => exact Nat.zero_le _
  | .err .capacity => exact Nat.zero_le _

/-- A call that ends after `c` of the `k` turns WAIT gives it: the turns left are idle, and the RDS returns STATUS. -/
theorem steps_wait {s t : State} {c k : Nat} (hcall : steps (c + 1) s = .next t) (hidle : t.status.busy = false)
    (hc : c ≤ k) (hin : t.inbox = (waitFor k).drop c) :
    steps (k + 2) s = .next { t with inbox := [], reply := .status t.status.byte } := by
  have hturns : engineTurns (k - c) t.inbox := by
    rw [hin]
    refine engineTurns.right ?_
    rw [Nat.add_sub_cancel' hc]
    exact engineTurns_replicate k _
  have hread : (t.withInbox (t.inbox.drop (k - c))).inbox = [.host (.port .readStatus)] := by
    rw [State.withInbox_inbox, hin, List.drop_drop, Nat.add_sub_cancel' hc]
    exact List.drop_left' List.length_replicate
  have hstep := (step_of_turn (State.turn_of_host hread) (i := .rds) rfl).trans (exec_rds _)
  have hcount : k + 2 = (c + 1) + ((k - c) + 1) := by omega
  rw [hcount, steps_add _ _ hcall, steps_add _ 1 (steps_idle hidle hturns), steps_succ 0 hstep, steps_zero]
  rfl

theorem length_decodeProgram (text : List Code) :
    (decodeProgram text).length = text.length + (text.length / 5 + 1 + 2) := by
  rw [decodeProgram, List.length_append, ldt, length_ldtFrom, List.length_cons, length_waitFor]

theorem length_encodeProgram (bytes : List Byte) :
    (encodeProgram bytes).length = bytes.length + (bytes.length / 4 + 1 + 2) := by
  rw [encodeProgram, List.length_append, ldb, length_ldbFrom, List.length_cons, length_waitFor]

theorem Decoded.idle {s t : State} {n : BitVec 31} (h : Decoded s t n) : t.status.busy = false := by
  cases hcall : decodeCall s.build (s.text n.toNat) with
  | ok out => rw [(h.ok out hcall).1]; rfl
  | err k => rw [(h.err k hcall).1]; rfl

theorem Encoded.idle {s t : State} {n : BitVec 31} (h : Encoded s t n) : t.status.busy = false := by
  cases hcall : encodeCall s.build (s.bytes n.toNat) with
  | ok out => rw [(h.ok out hcall).1]; rfl
  | err k => rw [(h.err k hcall).1]; rfl

/-- Settles O48: LDT makes the text the first units of TBUF, and WAIT covers the call's turns whatever its outcome. -/
theorem decodeProgramGivesDecodeCall : Obligations.DecodeProgramGivesDecodeCall := by
  intro s text hinv hidle hcap hfits hin
  obtain ⟨-, hmax⟩ := Params.maxBlocks_of_ok hinv.build
  obtain ⟨u, hload, hbuild, hstatus, hinbox, hunits, -⟩ :=
    steps_ldtFrom (i := 0) hidle (by rw [Nat.zero_add]; exact hcap) hfits hin
  have hn : (BitVec.ofNat 31 text.length).toNat = text.length := by
    rw [BitVec.toNat_ofNat, Nat.mod_eq_of_lt (by omega)]
  have htext : u.text text.length = text := State.text_eq fun i hi => by rw [hunits i hi, Nat.zero_add]
  obtain ⟨v, hcall, hdone, hleft⟩ := steps_decode (hbuild ▸ hinv.build) (hstatus ▸ hidle) hinbox
    (by rw [hn]; exact engineTurns_replicate _ _)
  rw [hn] at hcall hleft
  have hwait := steps_wait hcall hdone.idle (callTurns_le _ _) hleft
  have houtcome : decodeCall s.build text = decodeCall u.build (u.text (BitVec.ofNat 31 text.length).toNat) := by
    rw [hbuild, hn, htext]
  rw [houtcome]
  refine ⟨{ v with inbox := [], reply := .status v.status.byte }, ?_, rfl, rfl, fun out h => ?_, fun k h => ?_⟩
  · rw [length_decodeProgram, steps_add _ _ hload, hwait]
  · obtain ⟨hsucceeded, holen, hbytes⟩ := hdone.ok out h
    exact ⟨hsucceeded ▸ Status.byte_succeeded, holen, hbytes⟩
  · obtain ⟨hfailed, holen⟩ := hdone.err k h
    refine ⟨hfailed, holen, fun i hi => ?_⟩
    rw [hunits i hi, Nat.zero_add, ← hdone.text i]
    rfl

/-- Settles O49: LDB makes the bytes the first units of BBUF, and WAIT covers the call's turns whatever its outcome. -/
theorem encodeProgramGivesEncodeCall : Obligations.EncodeProgramGivesEncodeCall := by
  intro s bytes hinv hidle hcap hin
  obtain ⟨-, hmax⟩ := Params.maxBlocks_of_ok hinv.build
  obtain ⟨u, hload, hbuild, hstatus, hinbox, hunits, -⟩ :=
    steps_ldbFrom (i := 0) hidle (by rw [Nat.zero_add]; exact hcap) hin
  have hn : (BitVec.ofNat 31 bytes.length).toNat = bytes.length := by
    rw [BitVec.toNat_ofNat, Nat.mod_eq_of_lt (by omega)]
  have hbytes : u.bytes bytes.length = bytes := State.bytes_eq fun i hi => by rw [hunits i hi, Nat.zero_add]
  obtain ⟨v, hcall, hdone, hleft⟩ := steps_encode (hbuild ▸ hinv.build) (hstatus ▸ hidle) hinbox
    (by rw [hn]; exact engineTurns_replicate _ _)
  rw [hn] at hcall hleft
  have hwait := steps_wait hcall hdone.idle (callTurns_le _ _) hleft
  have houtcome : encodeCall s.build bytes = encodeCall u.build (u.bytes (BitVec.ofNat 31 bytes.length).toNat) := by
    rw [hbuild, hn, hbytes]
  rw [houtcome]
  refine ⟨{ v with inbox := [], reply := .status v.status.byte }, ?_, rfl, rfl, fun out h => ?_, fun k h => ?_⟩
  · rw [length_encodeProgram, steps_add _ _ hload, hwait]
  · obtain ⟨hsucceeded, holen, htext⟩ := hdone.ok out h
    exact ⟨hsucceeded ▸ Status.byte_succeeded, holen, htext⟩
  · obtain ⟨hfailed, holen, -⟩ := hdone.err k h
    exact ⟨hfailed, holen⟩

end Sys2Proof.Machine
end
